-- ==== Sys2Proof/Word.lean ====
section
/-!
DEFINITION. The word types of PXS (00_scope.md rule R11): u8, u16 and 32-bit registers, all unsigned,
bit 0 the least significant.
-/

namespace Sys2Proof

/-- A byte of SRC, DST, LUMAMEM or TRIADMEM, and an entry of LUMA (10_state.md R34). -/
abbrev Byte := BitVec 8

/-- A packed pixel: 16 bits in either format (00_scope.md R7). -/
abbrev Pixel := BitVec 16

/-- A register of REG and a command word (10_state.md R21, 30_encoding.md R90). -/
abbrev Word := BitVec 32

end Sys2Proof
end

