-- ==== Sys2Proof/Config.lean ====
section
/-!
DEFINITION. What an implementation of PXS fixes: the OPEN parameters of 00_scope.md rule R8, and the
free values, opaque constants that nothing evaluates and no proof knows.
-/

namespace Sys2Proof

/-- The pixel format FMT (00_scope.md R9): 0 is RGB565, 1 is RGB555. -/
inductive PixelFormat where
  | rgb565
  | rgb555
deriving DecidableEq, Repr, Inhabited

/-- Which TriadParams preset and smear strategy is in use (10_state.md R23 `PRESET`): 0 is
full-resolution, 1 is half-resolution. -/
inductive Preset where
  | full
  | half
deriving DecidableEq, Repr, Inhabited

/-- A colour channel; as the triad channel k of 10_state.md R33: 0 is R, 1 is G, 2 is B. -/
inductive Channel where
  | red
  | green
  | blue
deriving DecidableEq, Repr, Inhabited

/-- The brightness phase p of 10_state.md R33: 0 is dim, 1 is bright. -/
inductive Phase where
  | dim
  | bright
deriving DecidableEq, Repr, Inhabited

/-- The display backend's answer to `CreateBuffer` (46_plugin_commands.md R243 (a)). -/
inductive BackendAnswer where
  | ok
  | failAlloc
  | failUnsupported
deriving DecidableEq, Repr, Inhabited

/-- The TriadParams record, eleven fields in the source's order (44_crt_lut_engine.md R194), held as
rationals so that the stages are exact (log 6). -/
structure TriadParams where
  brightDim     : Rat
  brightBright  : Rat
  tint          : Rat
  blackFloor    : Rat
  bleed         : Rat
  maskGain      : Rat
  subpixelFloor : Rat
  gain          : Rat
  gamma         : Rat
  outBlack      : Rat
  outSaturation : Rat
deriving DecidableEq, Repr, Inhabited

/-- The OPEN parameters of 00_scope.md R8 and the constant tables of 10_state.md R20 (g), R35, R36:
what one implementation fixes, as plain data. -/
structure Params where
  /-- `MAX_W`, `MAX_H`: the largest supported source width and height (46_plugin_commands.md R245). -/
  maxW         : Nat
  maxH         : Nat
  /-- `SRC_MEM_BYTES`, `DST_MEM_BYTES`: the capacities (46_plugin_commands.md R247). -/
  srcMemBytes  : Nat
  dstMemBytes  : Nat
  /-- `TRIAD_PRESET_FULL`, `TRIAD_PRESET_HALF` (44_crt_lut_engine.md R195). -/
  presetFull   : TriadParams
  presetHalf   : TriadParams
  /-- `LUMA_MARGIN`, 0..255 (45_crt_phosphor.md R222). -/
  lumaMargin   : Fin 256
  /-- `PAT_HALF[r][c]` and `PAT_FULL[r][c]` (45_crt_phosphor.md R224). -/
  patHalf      : Vector (Vector (Channel × Phase) 6) 4
  patFull      : Vector (Vector (Channel × Phase) 12) 4
  /-- `DOT_TABLE` and `DOT_SHIFT` (41_filters_basic.md R148). -/
  dotTable     : Vector Pixel 16
  dotShift     : Fin 16
  /-- `HIDDEN[f]` (10_state.md R32): read by no rule but the `DESC` register view. -/
  hidden       : Vector Bool 10
deriving DecidableEq, Repr, Inhabited

namespace Config

/-- The parameters of the implementation at hand: any (log 3). -/
opaque params : Params

/-- What byte `a` of SRC holds after the `n`-th event that made SRC unspecified, until it is
written (93_implementation_defined.md U1, U5; log 4). -/
opaque srcByte : Nat → Nat → Byte

/-- The same for DST (93_implementation_defined.md U1, U3; log 4). -/
opaque dstByte : Nat → Nat → Byte

/-- What `LUMA[s]` reads as while the table is not built (93_implementation_defined.md U2; log 4). -/
opaque lumaByte : Nat → Pixel → Byte

/-- What `TRIAD[k][p][s]` reads as while the table is not built (93_implementation_defined.md U2;
log 4). -/
opaque triadPixel : Nat → Channel → Phase → Pixel → Pixel

/-- The backend's answer to the handshake of draw `n` where nothing fixes it
(93_implementation_defined.md U8; log 2). -/
opaque backendAnswer : Nat → BackendAnswer

/-- What the 32-bit register SURF_H holds after an INIT whose exact `SRC_H·my` does not fit it: the
spec states no value there (log 7). -/
opaque surfaceHeight : Nat → Word

end Config

end Sys2Proof
end

