-- ==== Sys2Proof/Syntax.lean ====
section
/-!
DEFINITION. The commands of PXS (30_encoding.md rule R93), one constructor per row of the opcode
table, and the host actions a host program is made of (30_encoding.md rule R96).
-/

namespace Sys2Proof

/-- The ten filter kinds in their fixed order (00_scope.md R2, 10_state.md R32). -/
inductive Filter where
  | direct
  | superEagle
  | scale2x
  | advScale2x
  | tv2x
  | bilinear
  | bicubic
  | dotMatrix
  | monitor2x
  | ctm644
deriving DecidableEq, Repr, Inhabited

/-- The thirteen commands (30_encoding.md R93). The filter identifier of INIT is part of the
mnemonic, so no command has an operand left (R92). -/
inductive Instr where
  | initDirect
  | initSuperEagle
  | initScale2x
  | initAScale2x
  | initTv2x
  | initBilinear
  | initBicubic
  | initDotMatrix
  | initMonitor2x
  | initCtm644
  | setPal
  | flip
  | close
deriving DecidableEq, Repr

/-- The byte-addressed and table spaces a host can read (20_memory.md R60). -/
inductive Space where
  | src
  | dst
  | lumaMem
  | triadMem
deriving DecidableEq, Repr

/-- The width of a host memory access (20_memory.md R65). -/
inductive AccessWidth where
  | byte
  | half
deriving DecidableEq, Repr

/-- The registers of REG by name (10_state.md R21). -/
inductive Reg where
  | cmd
  | status
  | result
  | fault
  | cfg
  | srcW
  | srcH
  | srcPitch
  | dstPitch
  | surfW
  | surfH
  | mult
  | clipSrcX
  | clipSrcY
  | clipSrcW
  | clipSrcH
  | clipDstX
  | clipDstY
  | clipDstW
  | clipDstH
  | palIn (i : Fin 32)
  | pal (i : Fin 32)
  | desc (f : Filter)
deriving DecidableEq, Repr

/-- One host action (00_scope.md R10, 30_encoding.md R96, 20_memory.md R60, R65): the unit of one
step. A command is the action `wr` at the offset of `CMD`. -/
inductive HostAction where
  /-- `wr <REG>, <value>`: a 32-bit register write at a byte offset of REG. -/
  | wr (off : Nat) (v : Word)
  /-- `rd <REG>`: a 32-bit register read. -/
  | rd (off : Nat)
  /-- `ws <x>, <y>, <value>`: a 16-bit write of a source pixel. -/
  | ws (x y : Nat) (v : Pixel)
  /-- `rs <x>, <y>`: a 16-bit read of a source pixel. -/
  | rs (x y : Nat)
  /-- `rdst <X>, <Y>`: a 16-bit read of a destination pixel. -/
  | rdst (x y : Nat)
  /-- An 8-bit write of SRC at a byte address (20_memory.md R65). -/
  | srcWrite8 (a : Nat) (v : Byte)
  /-- A 16-bit write of SRC at a byte address (20_memory.md R65). -/
  | srcWrite16 (a : Nat) (v : Pixel)
  /-- An 8- or 16-bit read of a space at a byte address (20_memory.md R60, R65). -/
  | read (sp : Space) (w : AccessWidth) (a : Nat)
  /-- `backend <answer>`: fixes the answer to the next `CreateBuffer` handshake. -/
  | backend (ans : BackendAnswer)
  /-- The platform asserts the reset input (70_reset_and_hazards.md R311, R313). -/
  | reset
deriving DecidableEq, Repr

end Sys2Proof
end

