-- ==== Sys2Proof/WellFormed.lean ====
section
/-!
DEFINITION. Which terms of the syntax the encoding and the access rules admit. No command carries an
operand (30_encoding.md rule R92), so every `Instr` is well formed; host actions and the OPEN
parameters have constraints of their own.
-/

namespace Sys2Proof

/-- Every command is well formed: the opcode table leaves no operand field (30_encoding.md R93: no
bit of a legal command is a don't-care). -/
def Instr.wellFormed : Instr → Bool
  | .initDirect => true
  | .initSuperEagle => true
  | .initScale2x => true
  | .initAScale2x => true
  | .initTv2x => true
  | .initBilinear => true
  | .initBicubic => true
  | .initDotMatrix => true
  | .initMonitor2x => true
  | .initCtm644 => true
  | .setPal => true
  | .flip => true
  | .close => true

/-- A host action inside the spec's domain (93_implementation_defined.md U7): REG accesses are
aligned 32-bit accesses, 16-bit accesses are 2-byte aligned, and LUMAMEM is read by bytes
(20_memory.md R60, R64, 10_state.md R43). The alignment of `ws`, `rs` and `rdst` depends on a pitch
and is judged when they run. -/
def HostAction.wellFormed : HostAction → Bool
  | .wr off _ => off % 4 == 0
  | .rd off => off % 4 == 0
  | .ws _ _ _ => true
  | .rs _ _ => true
  | .rdst _ _ => true
  | .srcWrite8 _ _ => true
  | .srcWrite16 a _ => a % 2 == 0
  | .read .lumaMem .half _ => false
  | .read _ .half a => a % 2 == 0
  | .read _ .byte _ => true
  | .backend _ => true
  | .reset => true

/-- The ranges of the TriadParams fields (44_crt_lut_engine.md R194). -/
def TriadParams.wellFormed (p : TriadParams) : Bool :=
  decide (0 ≤ p.brightDim) && decide (0 ≤ p.brightBright) &&
  decide (0 ≤ p.tint) && decide (p.tint ≤ 1) &&
  decide (0 ≤ p.blackFloor) && decide (p.blackFloor ≤ 255) &&
  decide (0 ≤ p.bleed) && decide (0 ≤ p.maskGain) && decide (0 ≤ p.subpixelFloor) &&
  decide (0 ≤ p.gain) && decide (0 < p.gamma) &&
  decide (0 ≤ p.outBlack) && decide (p.outBlack ≤ 255) && decide (0 ≤ p.outSaturation)

/-- The constraints 00_scope.md R8 puts on the OPEN parameters; the other ranges are in their types. -/
def Params.wellFormed (p : Params) : Bool :=
  decide (1 ≤ p.maxW) && decide (1 ≤ p.maxH) &&
  p.presetFull.wellFormed && p.presetHalf.wellFormed

end Sys2Proof
end

