-- ==== Sys2Proof/Decode.lean ====
section
/-!
DEFINITION. Decoding a command word (30_encoding.md rule R91), a total function of the word that
rejects by name, then the encoder (rule R93), and the register map of REG (10_state.md rule R21).
-/

namespace Sys2Proof

/-- Why a command word is ILLEGAL (30_encoding.md R94). Raised by `decode` only; safe: the block
answers such a word with `E_ILLEGAL_CMD` and goes on. -/
inductive DecodeError where
  /-- `ZERO` is not 0x0000. -/
  | zeroField
  /-- `OP` is 0x00 or at least 0x05. -/
  | unknownOp
  /-- `OP` is INIT and `ARG` is at least 10. -/
  | unknownFilter
  /-- `OP` is SETPAL, FLIP or CLOSE and `ARG` is not 0. -/
  | argNotZero
deriving DecidableEq, Repr

/-- The field OP of format C, bits 7:0 (30_encoding.md R90). -/
def opField (c : Word) : Nat := c.toNat % 256

/-- The field ARG of format C, bits 15:8 (30_encoding.md R90). -/
def argField (c : Word) : Nat := c.toNat / 256 % 256

/-- The field ZERO of format C, bits 31:16 (30_encoding.md R90). -/
def zeroField (c : Word) : Nat := c.toNat / 65536

/-- The filter of an identifier, unscaled and unshifted: legal only in 0..9 (30_encoding.md R92). -/
def Filter.ofId : Nat → Option Filter
  | 0 => some .direct
  | 1 => some .superEagle
  | 2 => some .scale2x
  | 3 => some .advScale2x
  | 4 => some .tv2x
  | 5 => some .bilinear
  | 6 => some .bicubic
  | 7 => some .dotMatrix
  | 8 => some .monitor2x
  | 9 => some .ctm644
  | _ => none

/-- INIT of a filter, as the command of the opcode table (30_encoding.md R93). -/
def initOf : Filter → Instr
  | .direct => .initDirect
  | .superEagle => .initSuperEagle
  | .scale2x => .initScale2x
  | .advScale2x => .initAScale2x
  | .tv2x => .initTv2x
  | .bilinear => .initBilinear
  | .bicubic => .initBicubic
  | .dotMatrix => .initDotMatrix
  | .monitor2x => .initMonitor2x
  | .ctm644 => .initCtm644

/-- A command without operand: legal only with ARG = 0 (30_encoding.md R91). -/
def noOperand (arg : Nat) (i : Instr) : Except DecodeError Instr :=
  if arg = 0 then .ok i else .error .argNotZero

/-- Decoding (30_encoding.md R91), independent of every register (R95). -/
def decode (c : Word) : Except DecodeError Instr :=
  if zeroField c ≠ 0 then .error .zeroField
  else
    match opField c with
    | 1 =>
      match Filter.ofId (argField c) with
      | some f => .ok (initOf f)
      | none => .error .unknownFilter
    | 2 => noOperand (argField c) .setPal
    | 3 => noOperand (argField c) .flip
    | 4 => noOperand (argField c) .close
    | _ => .error .unknownOp

/-- The instruction the decoder reads from a table row of `nbits` bits whose value is `w`: a command
is one 32-bit word, its bits above `nbits` 0. -/
def decodeTableWord (nbits w : Nat) : Option Instr :=
  match decode (BitVec.ofNat 32 (w % 2 ^ nbits)) with
  | .ok i => some i
  | .error _ => none

/-- The identifier of a filter, 0..9 (10_state.md R32). -/
def Filter.id : Filter → Nat
  | .direct => 0
  | .superEagle => 1
  | .scale2x => 2
  | .advScale2x => 3
  | .tv2x => 4
  | .bilinear => 5
  | .bicubic => 6
  | .dotMatrix => 7
  | .monitor2x => 8
  | .ctm644 => 9

/-- Format C from its OP and ARG, ZERO being 0 (30_encoding.md R90). -/
def formatC (op arg : Nat) : Word := BitVec.ofNat 32 (op + 256 * arg)

/-- The command word of an instruction (30_encoding.md R93). -/
def encode : Instr → Word
  | .initDirect => formatC 1 0
  | .initSuperEagle => formatC 1 1
  | .initScale2x => formatC 1 2
  | .initAScale2x => formatC 1 3
  | .initTv2x => formatC 1 4
  | .initBilinear => formatC 1 5
  | .initBicubic => formatC 1 6
  | .initDotMatrix => formatC 1 7
  | .initMonitor2x => formatC 1 8
  | .initCtm644 => formatC 1 9
  | .setPal => formatC 2 0
  | .flip => formatC 3 0
  | .close => formatC 4 0

/-- The register at a byte offset of REG (10_state.md R21); `none` for a reserved offset (R43) and
for an offset that is no multiple of 4. -/
def Reg.ofOffset (off : Nat) : Option Reg :=
  if off % 4 ≠ 0 then none
  else if off < 0x050 then
    match off / 4 with
    | 0 => some .cmd
    | 1 => some .status
    | 2 => some .result
    | 3 => some .fault
    | 4 => some .cfg
    | 5 => some .srcW
    | 6 => some .srcH
    | 7 => some .srcPitch
    | 8 => some .dstPitch
    | 9 => some .surfW
    | 10 => some .surfH
    | 11 => some .mult
    | 12 => some .clipSrcX
    | 13 => some .clipSrcY
    | 14 => some .clipSrcW
    | 15 => some .clipSrcH
    | 16 => some .clipDstX
    | 17 => some .clipDstY
    | 18 => some .clipDstW
    | _ => some .clipDstH
  else if off < 0x080 then none
  else if off < 0x100 then some (.palIn (Fin.ofNat 32 ((off - 0x080) / 4)))
  else if off < 0x180 then some (.pal (Fin.ofNat 32 ((off - 0x100) / 4)))
  else (Filter.ofId ((off - 0x180) / 4)).map .desc

/-- The byte offset of a register (10_state.md R21). -/
def Reg.offset : Reg → Nat
  | .cmd => 0x000
  | .status => 0x004
  | .result => 0x008
  | .fault => 0x00C
  | .cfg => 0x010
  | .srcW => 0x014
  | .srcH => 0x018
  | .srcPitch => 0x01C
  | .dstPitch => 0x020
  | .surfW => 0x024
  | .surfH => 0x028
  | .mult => 0x02C
  | .clipSrcX => 0x030
  | .clipSrcY => 0x034
  | .clipSrcW => 0x038
  | .clipSrcH => 0x03C
  | .clipDstX => 0x040
  | .clipDstY => 0x044
  | .clipDstW => 0x048
  | .clipDstH => 0x04C
  | .palIn i => 0x080 + 4 * i.val
  | .pal i => 0x100 + 4 * i.val
  | .desc f => 0x180 + 4 * f.id

end Sys2Proof
end

