-- ==== Sys2Proof/Machine/State.lean ====
section
/-!
DEFINITION. The state of PXS (10_state.md rule R20) with the host agent that drives it (rule R40),
the reasons a step can stop, and the state after reset (70_reset_and_hazards.md rule R310).
-/

namespace Sys2Proof.Machine

open Sys2Proof

/-- Why a step stops with a fault of the MODEL. The faults of PXS itself (60_exceptions.md R280) are
no such stop: they are latched in FAULT and the step answers a next state. -/
inductive Fault where
  /-- Raised by `step` when `cp` equals the length of the host's list of actions: the run ends
  (10_state.md R40; log 12). Safe. -/
  | runEnded
  /-- Raised by FLIP when a pixel of the resolved rectangles lies outside SRC or DST, or outside the
  transform's image: 20_memory.md R62 and 00_scope.md R14 define no such access. 20_memory.md R72
  says no reachable state has one (log 11). Safe. -/
  | engineOutOfRange
  /-- Raised by a host access to an address outside SRC, DST, LUMAMEM or TRIADMEM
  (20_memory.md R60, R62). Safe. -/
  | hostOutOfRange
deriving DecidableEq, Repr

/-- Why a step has no meaning. -/
inductive Refusal where
  /-- An instruction of the opcode table without a meaning yet. Safe. No arm uses it. -/
  | notModelled (mnemonic : String)
  /-- Raised by a host access to REG that is not an aligned 32-bit access, a host 16-bit access at
  an odd address, or a 16-bit read of LUMAMEM (93_implementation_defined.md U7: refuse; logs 9, 10).
  Safe. -/
  | misalignedAccess
  /-- Raised by a host access to SRC while no plugin is active: 10_state.md R37 grants it only while
  `STATUS.ACTIVE` is 1 (log 8). Safe. -/
  | srcNotOwned
deriving DecidableEq, Repr

/-- STATUS (10_state.md R23) without FAULTED, which is a view of FAULT (R26; log 16). -/
structure Status where
  active   : Bool
  lutValid : Bool
  preset   : Preset
  filter   : Filter
deriving DecidableEq, Repr

/-- The result codes of RESULT (10_state.md R24). -/
inductive ResultCode where
  | ok
  | eAlloc
  | eUnsupported
  | eIllegalCmd
  | eFaulted
deriving DecidableEq, Repr

/-- The three sticky bits of FAULT (10_state.md R26). -/
structure FaultReg where
  lifecycle  : Bool
  pitch      : Bool
  lutUnbuilt : Bool
deriving DecidableEq, Repr

/-- The causes of a fault, one per bit of FAULT (60_exceptions.md R280). -/
inductive FaultCause where
  | lifecycle
  | pitch
  | lutUnbuilt
deriving DecidableEq, Repr

/-- The five operand registers (10_state.md R44): CFG (R25), SRC_W, SRC_H (R27), SRC_PITCH,
DST_PITCH (R28). -/
structure OperandRegs where
  cfg      : Word
  srcW     : Word
  srcH     : Word
  srcPitch : Word
  dstPitch : Word
deriving DecidableEq, Repr

/-- SURF_W, SURF_H and MULT (10_state.md R29). -/
structure SurfaceRegs where
  surfW : Word
  surfH : Word
  mult  : Word
deriving DecidableEq, Repr

/-- CLIP_SRC_X/Y/W/H and CLIP_DST_X/Y/W/H (10_state.md R30). -/
structure ClipRegs where
  srcX : Word
  srcY : Word
  srcW : Word
  srcH : Word
  dstX : Word
  dstY : Word
  dstW : Word
  dstH : Word
deriving DecidableEq, Repr

/-- A byte memory (10_state.md R37, R38): the bytes written since the last event that made it
unspecified, addresses strictly rising, and the index of that event. An unlisted address holds no
written byte; what it reads as is the free value of that event (log 4). -/
structure Memory where
  cells : List Host.Cell
  epoch : Nat
deriving DecidableEq, Repr

/-- The contents of LUMA (10_state.md R34), as what last determined all its entries: unspecified by
the event of that index, or built for a format (log 5). -/
inductive LumaTable where
  | unspecified (epoch : Nat)
  | built (fmt : PixelFormat)
deriving DecidableEq, Repr

/-- The contents of TRIAD (10_state.md R33), as what last determined all its entries: unspecified by
the event of that index, or built from a TriadParams record for a format (log 5). -/
inductive TriadTable where
  | unspecified (epoch : Nat)
  | built (record : TriadParams) (fmt : PixelFormat)
deriving DecidableEq, Repr

/-- A rectangle in pixels (47_clip_resolver.md R270). -/
structure Rect where
  x : Nat
  y : Nat
  w : Nat
  h : Nat
deriving DecidableEq, Repr

/-- What reaches the display backend (46_plugin_commands.md R243), recorded in the output trace. -/
inductive Event where
  /-- `CreateBuffer(width, height, bitsPerPixel, fmt, fullscreen)` and its answer. -/
  | createBuffer (width height bitsPerPixel : Nat) (fmt : PixelFormat) (fullscreen : Bool)
      (answer : BackendAnswer)
  /-- `Present(SURF_W, SURF_H, DST_PITCH, dst, PRESERVE_ASPECT)`. -/
  | present (width height pitch : Word) (dst : Rect) (preserveAspect : Bool)
deriving DecidableEq, Repr

/-- The host agent and its environment (10_state.md R40, 30_encoding.md R96; logs 1, 2, 13). -/
structure HostAgent where
  /-- The host's ordered list of actions. -/
  program : List HostAction
  /-- The index of the next action. -/
  cp : Nat
  /-- The answer a `backend` action fixed for the next handshake. -/
  answer : Option BackendAnswer
  /-- The answer when no `backend` action fixes one: R96's `ok` in a run of a program text, `none`
  for a free value (R243 (a)). -/
  omitted : Option BackendAnswer
  /-- The MODEL's own: the values host reads returned, newest last. -/
  reads : List Word
deriving DecidableEq, Repr

/-- The whole machine (10_state.md R20). -/
structure State where
  status  : Status
  result  : ResultCode
  fault   : FaultReg
  operand : OperandRegs
  surface : SurfaceRegs
  clip    : ClipRegs
  /-- PAL_IN[0..31] and PAL[0..31] (10_state.md R31). -/
  palIn   : Vector Word 32
  pal     : Vector Word 32
  luma    : LumaTable
  triad   : TriadTable
  src     : Memory
  dst     : Memory
  /-- The output trace (46_plugin_commands.md R243), newest last. -/
  trace   : List Event
  /-- The constant tables and OPEN parameters (10_state.md R20 (g); log 3): never written. -/
  params  : Params
  host    : HostAgent
  /-- The MODEL's own: the index of the next free value (log 15). -/
  draws   : Nat
deriving DecidableEq, Repr

/-- The outcome of a meaning and of a step. -/
abbrev Result := Host.Outcome State Fault Refusal

/-- All CLIP registers 0 (70_reset_and_hazards.md R310, 46_plugin_commands.md R263). -/
def ClipRegs.zero : ClipRegs := ⟨0, 0, 0, 0, 0, 0, 0, 0⟩

/-- The state right after reset (70_reset_and_hazards.md R310); the parameters are those of the
implementation at hand, the host program is empty (log 1). -/
def State.reset : State where
  status  := ⟨false, false, .full, .direct⟩
  result  := .ok
  fault   := ⟨false, false, false⟩
  operand := ⟨0, 0, 0, 0, 0⟩
  surface := ⟨0, 0, 0⟩
  clip    := .zero
  palIn   := Vector.replicate 32 0
  pal     := Vector.replicate 32 0
  luma    := .unspecified 0
  triad   := .unspecified 0
  src     := ⟨[], 0⟩
  dst     := ⟨[], 0⟩
  trace   := []
  params  := Config.params
  host    := ⟨[], 0, none, none, []⟩
  draws   := 1

end Sys2Proof.Machine
end

