-- ==== Sys2Proof/Machine/Flags.lean ====
section
/-!
DEFINITION. PXS has no condition codes (10_state.md rule R41); its only status bits are those of
STATUS, RESULT and FAULT, and the flags of CFG. Their codes, fields and register views.
-/

namespace Sys2Proof.Machine

open Sys2Proof

/-- A Boolean as one bit. -/
def bit (b : Bool) : Nat := if b then 1 else 0

/-- Whether any bit of FAULT is 1. -/
def FaultReg.any (f : FaultReg) : Bool := f.lifecycle || f.pitch || f.lutUnbuilt

/-- The register view of FAULT (10_state.md R26). -/
def FaultReg.word (f : FaultReg) : Word :=
  BitVec.ofNat 32 (bit f.lifecycle + 2 * bit f.pitch + 4 * bit f.lutUnbuilt)

/-- FAULT with the bit of a cause set (60_exceptions.md R284). -/
def FaultReg.set (f : FaultReg) : FaultCause → FaultReg
  | .lifecycle => { f with lifecycle := true }
  | .pitch => { f with pitch := true }
  | .lutUnbuilt => { f with lutUnbuilt := true }

/-- STATUS.FAULTED: 1 when any bit of FAULT is 1 (10_state.md R23, R26). -/
def State.faulted (s : State) : Bool := s.fault.any

/-- The code of a preset in STATUS.PRESET (10_state.md R23). -/
def Preset.code : Preset → Nat
  | .full => 0
  | .half => 1

/-- The register view of STATUS (10_state.md R23). -/
def State.statusWord (s : State) : Word :=
  BitVec.ofNat 32 (bit s.status.active + 2 * bit s.status.lutValid + 4 * bit s.faulted
    + 8 * Preset.code s.status.preset + 256 * s.status.filter.id)

/-- The code of a result (10_state.md R24). -/
def ResultCode.code : ResultCode → Nat
  | .ok => 0
  | .eAlloc => 1
  | .eUnsupported => 2
  | .eIllegalCmd => 3
  | .eFaulted => 4

/-- The register view of RESULT (10_state.md R24). -/
def ResultCode.word (r : ResultCode) : Word := BitVec.ofNat 32 r.code

/-- The bits of CFG that a write stores: all but the reserved 7:5 and 31:15 (10_state.md R25). -/
def cfgMask : Word := 0x00007F1F

/-- The bits of a palette entry that a write stores (10_state.md R31). -/
def paletteMask : Word := 0x00FFFFFF

/-- CFG.HALF_H (10_state.md R25). -/
def cfgHalfH (cfg : Word) : Bool := cfg.getLsbD 0

/-- CFG.PRESERVE_ASPECT (10_state.md R25). -/
def cfgPreserveAspect (cfg : Word) : Bool := cfg.getLsbD 2

/-- CFG.FULLSCREEN (10_state.md R25). -/
def cfgFullscreen (cfg : Word) : Bool := cfg.getLsbD 3

/-- CFG.FMT (10_state.md R25). -/
def cfgFmt (cfg : Word) : PixelFormat := if cfg.getLsbD 4 then .rgb555 else .rgb565

/-- CFG.HALF_V: stored, and read by no rule of the spec (10_state.md R25). -/
def cfgHalfV (cfg : Word) : Bool := cfg.getLsbD 1

/-- CFG.SCANLINE: stored as written, 7 bits, and read by no rule (10_state.md R25,
41_filters_basic.md R142). -/
def cfgScanline (cfg : Word) : Nat := cfg.toNat / 256 % 128

/-- The preset CFG.HALF_H selects (44_crt_lut_engine.md R195, 46_plugin_commands.md R251). -/
def cfgPreset (cfg : Word) : Preset := if cfgHalfH cfg then .half else .full

/-- The format in force, CFG.FMT. -/
def State.fmt (s : State) : PixelFormat := cfgFmt s.operand.cfg

end Sys2Proof.Machine
end

