-- ==== Sys2Proof/Machine/Ops.lean ====
section
/-!
DEFINITION. The named operations over memory (20_memory.md), and the exceptional outcomes of a
command (60_exceptions.md rules R281 to R284): what every command shares. There is no trap return
(R291): nothing is saved, and only reset leaves a fault.
-/

namespace Sys2Proof.Machine

open Sys2Proof

/-- The byte listed at an address, if one is. -/
def lookupCell (a : Nat) : List Host.Cell → Option Byte
  | [] => none
  | (b, v) :: rest => if a = b then some v else lookupCell a rest

/-- List a byte at an address, keeping the addresses strictly rising. -/
def insertCell (a : Nat) (v : Byte) : List Host.Cell → List Host.Cell
  | [] => [(a, v)]
  | (b, u) :: rest =>
    if a < b then (a, v) :: (b, u) :: rest
    else if a = b then (a, v) :: rest
    else (b, u) :: insertCell a v rest

/-- The canonical form of a memory: addresses strictly rising. An unlisted address holds no written
byte, so no entry can equal what an unlisted address holds (log 4). -/
abbrev Memory.wf (m : Memory) : Prop := m.cells.Pairwise fun c d => c.1 < d.1

/-- A memory whose contents an event made unspecified (93_implementation_defined.md U1). -/
def Memory.fresh (n : Nat) : Memory := ⟨[], n⟩

/-- The byte written at an address since the last event that made the memory unspecified. -/
def Memory.byte? (m : Memory) (a : Nat) : Option Byte := lookupCell a m.cells

/-- `MemWrite(space, a, 1, v)` (20_memory.md R62). -/
def Memory.write8 (m : Memory) (a : Nat) (v : Byte) : Memory := { m with cells := insertCell a v m.cells }

/-- The low byte of a pixel, `v[7:0]` (20_memory.md R61). -/
def lowByte (v : Pixel) : Byte := v.extractLsb' 0 8

/-- The high byte of a pixel, `v[15:8]` (20_memory.md R61). -/
def highByte (v : Pixel) : Byte := v.extractLsb' 8 8

/-- The pixel of two bytes, the low one first (20_memory.md R61, R62). -/
def pixelOfBytes (lo hi : Byte) : Pixel := hi ++ lo

/-- `MemWrite(space, a, 2, v)`: `v[7:0]` at `a`, `v[15:8]` at `a + 1` (20_memory.md R61, R62). -/
def Memory.write16 (m : Memory) (a : Nat) (v : Pixel) : Memory :=
  (m.write8 a (lowByte v)).write8 (a + 1) (highByte v)

/-- What byte `a` of SRC reads as (10_state.md R37): the written byte, or the free value of the event
that last made SRC unspecified. -/
def State.srcByte (s : State) (a : Nat) : Byte := (s.src.byte? a).getD (Config.srcByte s.src.epoch a)

/-- What byte `a` of DST reads as (10_state.md R38), likewise. -/
def State.dstByte (s : State) (a : Nat) : Byte := (s.dst.byte? a).getD (Config.dstByte s.dst.epoch a)

/-- `MemRead(SRC, a, 2)` (20_memory.md R62). -/
def State.srcHalf (s : State) (a : Nat) : Pixel := pixelOfBytes (s.srcByte a) (s.srcByte (a + 1))

/-- `MemRead(DST, a, 2)` (20_memory.md R62). -/
def State.dstHalf (s : State) (a : Nat) : Pixel := pixelOfBytes (s.dstByte a) (s.dstByte (a + 1))

/-- One row of an image stored at the addresses `addr X`, for `0 ≤ X < w`. -/
def storeRow (addr : Nat → Nat) (px : Nat → Pixel) (w : Nat) (m : Memory) : Memory :=
  (List.range w).foldl (fun m X => m.write16 (addr X) (px X)) m

/-- `PixWrite` of every pixel of a `w` by `h` image (46_plugin_commands.md R252): the pixels are
functions of the state before the command, so the order of the writes is immaterial
(00_scope.md R13). -/
def storeImage (addr : Nat → Nat → Nat) (px : Nat → Nat → Pixel) (w h : Nat) (m : Memory) : Memory :=
  (List.range h).foldl (fun m Y => storeRow (fun X => addr X Y) (fun X => px X Y) w m) m

/-- RESULT written (10_state.md R24). -/
def State.setResult (s : State) (r : ResultCode) : State := { s with result := r }

/-- `raise Fault(F_x)` (60_exceptions.md R284): the sticky bit, FAULTED with it, RESULT = E_FAULTED,
and nothing else. -/
def raiseFault (c : FaultCause) (s : State) : State := { s with fault := s.fault.set c, result := .eFaulted }

/-- What a faulted block does with any command word (60_exceptions.md R284). -/
def refuseFaulted (s : State) : State := s.setResult .eFaulted

/-- `fail Init(E_x)` (60_exceptions.md R283): RESULT and nothing else. -/
def failInit (r : ResultCode) (s : State) : State := s.setResult r

/-- What an illegal command word does (60_exceptions.md R282): E_ILLEGAL_CMD, and in a faulted block
the refusal of R284, which is tested first (R289). -/
def illegalCommand (s : State) : State :=
  if s.faulted then refuseFaulted s else s.setResult .eIllegalCmd

/-- What every legal command tests first, in the order of 60_exceptions.md R289: the refusal of a
faulted block (R284), then the lifecycle (R281): the command runs only when `STATUS.ACTIVE` is
`active`. -/
def lifecycleGate (active : Bool) (body : State → Result) (s : State) : Result :=
  if s.faulted then .next (refuseFaulted s)
  else if s.status.active = active then body s
  else .next (raiseFault .lifecycle s)

end Sys2Proof.Machine
end

