-- ==== Sys2Proof/Machine/Close.lean ====
section
/-!
DEFINITION. The CLOSE command (46_plugin_commands.md rule R263).
-/

namespace Sys2Proof.Machine

open Sys2Proof

/-- What CLOSE of CTM644 drops (46_plugin_commands.md R263, 20_memory.md R70). -/
def releaseTables (s : State) : State :=
  { s with
    status := { s.status with lutValid := false, preset := .full }
    luma := .unspecified s.draws
    triad := .unspecified s.draws }

/-- What every CLOSE releases (46_plugin_commands.md R263). -/
def releaseSurfaces (s : State) : State :=
  { s with
    status := { s.status with active := false, filter := .direct }
    surface := ⟨0, 0, 0⟩
    clip := .zero
    src := Memory.fresh s.draws
    dst := Memory.fresh s.draws
    draws := s.draws + 1
    result := .ok }

/-- `Close()` (46_plugin_commands.md R263). -/
def closeBody (s : State) : State :=
  releaseSurfaces (if s.status.filter = .ctm644 then releaseTables s else s)

/-- CLOSE (46_plugin_commands.md R263): nothing goes to the backend trace. -/
def execClose (s : State) : Result := lifecycleGate true (fun t => .next (closeBody t)) s

end Sys2Proof.Machine
end

