-- ==== Sys2Proof/Machine/Clip.lean ====
section
/-!
DEFINITION. The clip/geometry resolver, framebuffer_clipper (47_clip_resolver.md).
-/

namespace Sys2Proof.Machine

/-- The result of `ResolveAxis`: `(src_off, src_len, dst_off, dst_len)` (47_clip_resolver.md R271). -/
structure AxisClip where
  srcOff : Nat
  srcLen : Nat
  dstOff : Nat
  dstLen : Nat
deriving DecidableEq, Repr

/-- `ResolveAxis(n, m, sz)` (47_clip_resolver.md R271), which the rule gives for `sz ≥ m`. For `sz < m`
the same formulas stand, by the model's choice, and select no pixel: `srcLen = dstLen = 0` (DESIGN
CHOICE, unsafe, log 21). -/
def resolveAxis (n m sz : Nat) : AxisClip :=
  let scaled := n * m
  if scaled ≤ sz then ⟨0, n, (sz - scaled) / 2, scaled⟩
  else
    let cut := (scaled - sz + m - 1) / m
    let srcLen := n - cut
    let dstLen := srcLen * m
    ⟨cut / 2, srcLen, (sz - dstLen) / 2, dstLen⟩

/-- The source and destination rectangles of a FLIP. -/
structure Clip where
  src : Rect
  dst : Rect
deriving DecidableEq, Repr

/-- `Resolve(W, H, mx, my, SW, SH)` (47_clip_resolver.md R270). -/
def resolve (w h mx my sw sh : Nat) : Clip :=
  let ax := resolveAxis w mx sw
  let ay := resolveAxis h my sh
  ⟨⟨ax.srcOff, ay.srcOff, ax.srcLen, ay.srcLen⟩, ⟨ax.dstOff, ay.dstOff, ax.dstLen, ay.dstLen⟩⟩

/-- The rectangles as the CLIP registers hold them (10_state.md R30). -/
def Clip.regs (c : Clip) : ClipRegs where
  srcX := BitVec.ofNat 32 c.src.x
  srcY := BitVec.ofNat 32 c.src.y
  srcW := BitVec.ofNat 32 c.src.w
  srcH := BitVec.ofNat 32 c.src.h
  dstX := BitVec.ofNat 32 c.dst.x
  dstY := BitVec.ofNat 32 c.dst.y
  dstW := BitVec.ofNat 32 c.dst.w
  dstH := BitVec.ofNat 32 c.dst.h

end Sys2Proof.Machine
end

