-- ==== Sys2Proof/Machine/Color.lean ====
section
/-!
DEFINITION. The colour math primitives (40_color_math.md): pure functions of their arguments and of
the pixel format, with no flag and no exception.
-/

namespace Sys2Proof.Machine

open Sys2Proof

/-- The shift of a channel's field: `rs`, `gs`, `bs` of 40_color_math.md R110. -/
def fieldShift : PixelFormat → Channel → Nat
  | .rgb565, .red => 11
  | .rgb565, .green => 5
  | .rgb565, .blue => 0
  | .rgb555, .red => 10
  | .rgb555, .green => 5
  | .rgb555, .blue => 0

/-- The width of a channel's field: `rb`, `gb`, `bb` of 40_color_math.md R110. -/
def fieldWidth : PixelFormat → Channel → Nat
  | .rgb565, .red => 5
  | .rgb565, .green => 6
  | .rgb565, .blue => 5
  | .rgb555, .red => 5
  | .rgb555, .green => 5
  | .rgb555, .blue => 5

/-- `colorMask` of 40_color_math.md R110. -/
def colorMask : PixelFormat → Pixel
  | .rgb565 => 0xF7DE
  | .rgb555 => 0x7BDE

/-- `lowPixelMask` of 40_color_math.md R110. -/
def lowPixelMask : PixelFormat → Pixel
  | .rgb565 => 0x0821
  | .rgb555 => 0x0421

/-- `qcolorMask` of 40_color_math.md R110. -/
def qcolorMask : PixelFormat → Pixel
  | .rgb565 => 0xE79C
  | .rgb555 => 0x739C

/-- `qlowpixelMask` of 40_color_math.md R110. -/
def qlowpixelMask : PixelFormat → Pixel
  | .rgb565 => 0x1863
  | .rgb555 => 0x0C63

/-- The greatest value of a channel, `2^n − 1`. -/
def channelMax (fmt : PixelFormat) (c : Channel) : Nat := 2 ^ fieldWidth fmt c - 1

/-- Unpack: `R(p)`, `G(p)`, `B(p)` of 40_color_math.md R111. -/
def channelOf (fmt : PixelFormat) (c : Channel) (p : Pixel) : Nat :=
  (p.toNat >>> fieldShift fmt c) &&& channelMax fmt c

/-- Pack: `pack(r, g, b)` of 40_color_math.md R111. -/
def pack (fmt : PixelFormat) (r g b : Nat) : Pixel :=
  BitVec.ofNat 16
    ((r <<< fieldShift fmt .red) ||| (g <<< fieldShift fmt .green) ||| (b <<< fieldShift fmt .blue))

/-- Pack the pixel whose channel `c` is `v c`. -/
def packChannels (fmt : PixelFormat) (v : Channel → Nat) : Pixel :=
  pack fmt (v .red) (v .green) (v .blue)

/-- `average2(a, b)` (40_color_math.md R112). -/
def average2 (fmt : PixelFormat) (a b : Pixel) : Pixel :=
  if a = b then a
  else ((a &&& colorMask fmt) >>> 1) + ((b &&& colorMask fmt) >>> 1) + (a &&& b &&& lowPixelMask fmt)

/-- `average4(a, b, c, d)` (40_color_math.md R114). -/
def average4 (fmt : PixelFormat) (a b c d : Pixel) : Pixel :=
  let x := ((a &&& qcolorMask fmt) >>> 2) + ((b &&& qcolorMask fmt) >>> 2)
    + ((c &&& qcolorMask fmt) >>> 2) + ((d &&& qcolorMask fmt) >>> 2)
  let y := (a &&& qlowpixelMask fmt) + (b &&& qlowpixelMask fmt)
    + (c &&& qlowpixelMask fmt) + (d &&& qlowpixelMask fmt)
  x + ((y >>> 2) &&& qlowpixelMask fmt)

/-- `scaleBrightness(p, num, den)` (40_color_math.md R116): exact product, quotient rounded down,
silent clamp to the channel's maximum. -/
def scaleBrightness (fmt : PixelFormat) (p : Pixel) (num den : Nat) : Pixel :=
  packChannels fmt fun c => min (channelMax fmt c) (channelOf fmt c p * num / den)

/-- `blend35(n, c)` (40_color_math.md R117). -/
def blend35 (fmt : PixelFormat) (n c : Pixel) : Pixel :=
  packChannels fmt fun k => (3 * channelOf fmt k n + 5 * channelOf fmt k c) / 8

/-- Bit replication `e(v, n)` (40_color_math.md R118). -/
def replicateBits (v n : Nat) : Nat := ((v <<< (8 - n)) ||| (v >>> (2 * n - 8))) &&& 0xFF

/-- A channel of `expand8(p)` (40_color_math.md R118). -/
def expand8 (fmt : PixelFormat) (p : Pixel) (c : Channel) : Nat :=
  replicateBits (channelOf fmt c p) (fieldWidth fmt c)

/-- `pack8(r8, g8, b8)` (40_color_math.md R119), the three 8-bit values given by channel. -/
def pack8 (fmt : PixelFormat) (v : Channel → Nat) : Pixel :=
  packChannels fmt fun c => v c >>> (8 - fieldWidth fmt c)

end Sys2Proof.Machine
end

