-- ==== Sys2Proof/Machine/Operands.lean ====
section
/-!
DEFINITION. The operand forms: the source window and its taps (00_scope.md rules R14, R15), the
descriptor table (10_state.md rule R32), row-pitch pixel addresses (20_memory.md rule R63), and the
placement of sub-pixels (41_filters_basic.md rule R144).
-/

namespace Sys2Proof.Machine

open Sys2Proof

/-- A source window `S : [0,w) × [0,h) → u16` (00_scope.md R14). A transform's operand, never state. -/
structure Window where
  w  : Nat
  h  : Nat
  px : Nat → Nat → Pixel

/-- `Tap(S, x, y, dx, dy)` (00_scope.md R15): the centre replaces a missing neighbour. -/
def Window.tap (S : Window) (x y : Nat) (dx dy : Int) : Pixel :=
  let u := (x : Int) + dx
  let v := (y : Int) + dy
  if 0 ≤ u ∧ u < S.w ∧ 0 ≤ v ∧ v < S.h then S.px u.toNat v.toNat else S.px x y

/-- The four destination pixels of one source pixel (41_filters_basic.md R144). -/
structure Quad where
  tl : Pixel
  tr : Pixel
  bl : Pixel
  br : Pixel
deriving DecidableEq, Repr

/-- The sub-pixel of a quad at destination column `X` and row `Y` (41_filters_basic.md R144). -/
def Quad.pick (q : Quad) (X Y : Nat) : Pixel :=
  if Y % 2 = 0 then (if X % 2 = 0 then q.tl else q.tr)
  else (if X % 2 = 0 then q.bl else q.br)

/-- `multiplierX` = `multiplierY` of a filter (00_scope.md R2, 10_state.md R32). -/
def multiplier : Filter → Nat
  | .direct => 1
  | .superEagle => 2
  | .scale2x => 2
  | .advScale2x => 2
  | .tv2x => 2
  | .bilinear => 2
  | .bicubic => 2
  | .dotMatrix => 2
  | .monitor2x => 2
  | .ctm644 => 4

/-- The register view of `DESC[f]` (10_state.md R32): mx in 7:0, my in 15:8, hidden in 16. -/
def descWord (params : Params) (f : Filter) : Word :=
  BitVec.ofNat 32 (multiplier f + 256 * multiplier f
    + 65536 * (if params.hidden[f.id]?.getD false then 1 else 0))

/-- The value of MULT for a filter, `mx | (my << 8)` (10_state.md R29, 46_plugin_commands.md R241). -/
def multWord (f : Filter) : Word := BitVec.ofNat 32 (multiplier f ||| (multiplier f <<< 8))

/-- `MULT[7:0]` (46_plugin_commands.md R252). -/
def multX (m : Word) : Nat := m.toNat % 256

/-- `MULT[15:8]` (46_plugin_commands.md R252). -/
def multY (m : Word) : Nat := m.toNat / 256 % 256

/-- The byte address of pixel `(x, y)` under a pitch (20_memory.md R63). -/
def pixelAddr (pitch x y : Nat) : Nat := y * pitch + 2 * x

end Sys2Proof.Machine
end

