-- ==== Sys2Proof/Machine/Crt.lean ====
section
/-!
DEFINITION. The CRT LUT engine (44_crt_lut_engine.md) and the CRT phosphor simulator
(45_crt_phosphor.md).
-/

namespace Sys2Proof.Machine

open Sys2Proof

/-- `rnd(r) = floor(r + 1/2)` (00_scope.md R12). -/
def rnd (r : Rat) : Int := (r + 1 / 2).floor

/-- `rnd` clamped to the 8-bit scale, `min(255, max(0, rnd(r)))` (44_crt_lut_engine.md R197, R206). -/
def rnd8 (r : Rat) : Nat := (min 255 (max 0 (rnd r))).toNat

/-- An entry of `BuildLumaLUT` (44_crt_lut_engine.md R191). -/
def lumaEntry (fmt : PixelFormat) (s : Pixel) : Byte :=
  BitVec.ofNat 8
    ((expand8 fmt s .red * 54 + expand8 fmt s .green * 183 + expand8 fmt s .blue * 19) >>> 8)

/-- `GAMMA_FN(γ, i)` (44_crt_lut_engine.md R196), evaluated exactly for a rational γ = a/b > 0: the
number of levels n in 1..255 with `n − 1/2 ≤ 255·(i/255)^(b/a)`, that is with
`(2n − 1)^a · 255^b ≤ 510^a · i^b` (log 6). -/
def gammaFn (γ : Rat) (i : Nat) : Nat :=
  (List.range 255).countP fun n =>
    decide ((2 * n + 1) ^ γ.num.toNat * 255 ^ γ.den ≤ 510 ^ γ.num.toNat * i ^ γ.den)

/-- Stage 1, gain (44_crt_lut_engine.md R197). -/
def gainStage (P : TriadParams) (a : Nat) : Nat := rnd8 (a * P.gain)

/-- Stage 2, gamma (44_crt_lut_engine.md R198). -/
def gammaStage (P : TriadParams) (g : Nat) : Nat := gammaFn P.gamma g

/-- Stage 3, output black-point lift (44_crt_lut_engine.md R199). -/
def blackLift (P : TriadParams) (h : Nat) : Rat := P.outBlack + h * (255 - P.outBlack) / 255

/-- The Rec.601 luma of stage 4 (44_crt_lut_engine.md R200). -/
def rec601 (l : Channel → Rat) : Rat :=
  299 / 1000 * l .red + 587 / 1000 * l .green + 114 / 1000 * l .blue

/-- Stage 4, saturation (44_crt_lut_engine.md R200). -/
def saturate (P : TriadParams) (l : Channel → Rat) (j : Channel) : Rat :=
  rec601 l + (l j - rec601 l) * P.outSaturation

/-- Stage 5, cross-channel bleed (44_crt_lut_engine.md R201): each channel gains a fraction of the
sum of the other two, all reading the stage-4 values. -/
def bleedStage (P : TriadParams) (t : Channel → Rat) : Channel → Rat
  | .red => t .red + P.bleed * (t .green + t .blue)
  | .green => t .green + P.bleed * (t .red + t .blue)
  | .blue => t .blue + P.bleed * (t .red + t .green)

/-- Stage 6, floor clamp (44_crt_lut_engine.md R202). -/
def floorClamp (P : TriadParams) (u : Rat) : Rat := min 255 (max P.blackFloor u)

/-- `shape(P, s)` (44_crt_lut_engine.md R203). -/
def shape (P : TriadParams) (fmt : PixelFormat) (s : Pixel) (j : Channel) : Rat :=
  floorClamp P (bleedStage P (saturate P fun c =>
    blackLift P (gammaStage P (gainStage P (expand8 fmt s c)))) j)

/-- The brightness factor `bf(p)` (44_crt_lut_engine.md R204). -/
def brightness (P : TriadParams) : Phase → Rat
  | .dim => P.brightDim
  | .bright => P.brightBright

/-- The mask value `m(k)_j` (44_crt_lut_engine.md R204). -/
def maskValue (P : TriadParams) (c : Channel → Rat) (k j : Channel) : Rat :=
  if j = k then c j * P.maskGain else 0

/-- The combination `o_j(k, p)` (44_crt_lut_engine.md R205). -/
def combine (P : TriadParams) (c : Channel → Rat) (k : Channel) (p : Phase) (j : Channel) : Rat :=
  brightness P p * (P.tint * c j + (1 - P.tint) * maskValue P c k j) + P.subpixelFloor

/-- An entry of `BuildTriadLUT(P)` (44_crt_lut_engine.md R206, R207). -/
def triadEntry (P : TriadParams) (fmt : PixelFormat) (k : Channel) (p : Phase) (s : Pixel) : Pixel :=
  pack8 fmt fun j => rnd8 (combine P (shape P fmt s) k p j)

/-- `LUMA[s]` (10_state.md R34): the built entry, or a free value while the table is not built. -/
def LumaTable.read : LumaTable → Pixel → Byte
  | .built fmt, s => lumaEntry fmt s
  | .unspecified n, s => Config.lumaByte n s

/-- `TRIAD[k][p][s]` (10_state.md R33): the built entry, or a free value while the table is not
built. -/
def TriadTable.read : TriadTable → Channel → Phase → Pixel → Pixel
  | .built P fmt, k, p, s => triadEntry P fmt k p s
  | .unspecified n, k, p, s => Config.triadPixel n k p s

/-- The TriadParams record of a preset (44_crt_lut_engine.md R195). -/
def presetRecord (params : Params) : Preset → TriadParams
  | .full => params.presetFull
  | .half => params.presetHalf

/-- A neighbour bleeds when its luma strictly exceeds the centre's by more than the margin
(45_crt_phosphor.md R222). -/
def bleeds (luma : LumaTable) (margin : Nat) (n c : Pixel) : Bool :=
  decide ((luma.read c).toNat + margin < (luma.read n).toNat)

/-- `Smear(S)` at `(x, y)` (45_crt_phosphor.md R222): edge columns clamp to themselves, the pass
reads the unsmeared row. -/
def smear (fmt : PixelFormat) (preset : Preset) (luma : LumaTable) (margin : Nat) (S : Window)
    (x y : Nat) : Pixel :=
  let c := S.px x y
  let l := if 0 < x then S.px (x - 1) y else c
  let r := if x + 1 < S.w then S.px (x + 1) y else c
  let bl := bleeds luma margin l c
  let br := bleeds luma margin r c
  match preset with
  | .half => average4 fmt (if bl then l else c) c c (if br then r else c)
  | .full =>
    let n := if bl && br then (if (luma.read r).toNat ≤ (luma.read l).toNat then l else r)
      else if bl then l else if br then r else c
    blend35 fmt n c

/-- `PAT[Y mod 4][X mod PW]` (45_crt_phosphor.md R224, R225). -/
def patternAt (params : Params) (preset : Preset) (X Y : Nat) : Channel × Phase :=
  match preset with
  | .half => (params.patHalf[Y % 4]'(by omega))[X % 6]'(by omega)
  | .full => (params.patFull[Y % 4]'(by omega))[X % 12]'(by omega)

/-- `Xform_CTM644` (45_crt_phosphor.md R226). -/
def xformCtm644 (params : Params) (fmt : PixelFormat) (preset : Preset) (luma : LumaTable)
    (triad : TriadTable) (S : Window) (X Y : Nat) : Pixel :=
  let kp := patternAt params preset X Y
  triad.read kp.1 kp.2 (smear fmt preset luma params.lumaMargin.val S (X / 4) (Y / 4))

end Sys2Proof.Machine
end

