-- ==== Sys2Proof/Machine/Filters.lean ====
section
/-!
DEFINITION. The filter transforms that need no table built by INIT: Direct, TV 2x, Software bilinear,
Dot matrix, Monitor 2x (41_filters_basic.md), Scale2x, SuperEagle, Advanced Scale2x
(42_filters_edge.md), Software bicubic (43_filter_bicubic.md). Each gives the destination pixel at
`(X, Y)` from the source window.
-/

namespace Sys2Proof.Machine

open Sys2Proof

/-- `Xform_Direct` (41_filters_basic.md R140). -/
def xformDirect (S : Window) (X Y : Nat) : Pixel := S.px X Y

/-- The four sub-pixels of `Xform_TV2x` (41_filters_basic.md R141); the ratio 7/8 is a constant of
the transform (R142). -/
def tv2xQuad (fmt : PixelFormat) (S : Window) (x y : Nat) : Quad :=
  let p := S.px x y
  let d := scaleBrightness fmt p 7 8
  ⟨p, p, d, d⟩

/-- `Xform_TV2x` (41_filters_basic.md R141). -/
def xformTv2x (fmt : PixelFormat) (S : Window) (X Y : Nat) : Pixel :=
  (tv2xQuad fmt S (X / 2) (Y / 2)).pick X Y

/-- The four sub-pixels of `Xform_Bilinear` with the last-row duplication (41_filters_basic.md R145,
R146). -/
def bilinearQuad (fmt : PixelFormat) (S : Window) (x y : Nat) : Quad :=
  let a := S.px x y
  let b := S.tap x y 1 0
  let c := S.tap x y 0 1
  let d := S.tap x y 1 1
  let tr := average2 fmt a b
  if y + 1 = S.h then ⟨a, tr, a, tr⟩
  else ⟨a, tr, average2 fmt a c, average4 fmt a b c d⟩

/-- `Xform_Bilinear` (41_filters_basic.md R145). -/
def xformBilinear (fmt : PixelFormat) (S : Window) (X Y : Nat) : Pixel :=
  (bilinearQuad fmt S (X / 2) (Y / 2)).pick X Y

/-- `Xform_DotMatrix` (41_filters_basic.md R148). -/
def xformDotMatrix (params : Params) (S : Window) (X Y : Nat) : Pixel :=
  let p := S.px (X / 2) (Y / 2)
  let m := params.dotTable[Y % 4 * 4 + X % 4]'(by omega)
  p ^^^ ((p >>> params.dotShift.val) &&& m)

/-- The four sub-pixels of `Xform_Monitor2x` (41_filters_basic.md R150): the two scalings are applied
one after the other. -/
def monitor2xQuad (fmt : PixelFormat) (S : Window) (x y : Nat) : Quad :=
  let q := bilinearQuad fmt S x y
  let boost := fun p => scaleBrightness fmt p 9 8
  let halve := fun p => scaleBrightness fmt p 1 2
  ⟨boost q.tl, boost q.tr, halve (boost q.bl), halve (boost q.br)⟩

/-- `Xform_Monitor2x` (41_filters_basic.md R150). -/
def xformMonitor2x (fmt : PixelFormat) (S : Window) (X Y : Nat) : Pixel :=
  (monitor2xQuad fmt S (X / 2) (Y / 2)).pick X Y

/-- The four sub-pixels of `Xform_Scale2x` (42_filters_edge.md R160). -/
def scale2xQuad (S : Window) (x y : Nat) : Quad :=
  let e := S.px x y
  let b := S.tap x y 0 (-1)
  let d := S.tap x y (-1) 0
  let f := S.tap x y 1 0
  let h := S.tap x y 0 1
  ⟨if d = b ∧ b ≠ f ∧ d ≠ h then d else e,
   if b = f ∧ b ≠ d ∧ f ≠ h then f else e,
   if d = h ∧ d ≠ b ∧ h ≠ f then d else e,
   if h = f ∧ d ≠ h ∧ b ≠ f then f else e⟩

/-- `Xform_Scale2x` (42_filters_edge.md R160). -/
def xformScale2x (S : Window) (X Y : Nat) : Pixel :=
  (scale2xQuad S (X / 2) (Y / 2)).pick X Y

/-- `GetResult(A, B, C, D)` (42_filters_edge.md R162). -/
def getResult (a b c d : Pixel) : Int :=
  let x := (if a = c then 1 else 0) + (if a = d then 1 else 0)
  let y := (if a = c then 0 else if b = c then 1 else 0) + (if a = d then 0 else if b = d then 1 else 0)
  (if x ≤ 1 then 1 else 0) - (if y ≤ 1 then 1 else 0)

/-- `GetResult1(A, B, C, D)` (42_filters_edge.md R163): the body of `GetResult`. -/
def getResult1 (a b c d : Pixel) : Int := getResult a b c d

/-- `GetResult2(A, B, C, D)` (42_filters_edge.md R163): the opposite signs. -/
def getResult2 (a b c d : Pixel) : Int := - getResult a b c d

/-- The four sub-pixels of `Xform_SuperEagle` (42_filters_edge.md R164), over the neighbourhood of
R165. -/
def superEagleQuad (fmt : PixelFormat) (S : Window) (x y : Nat) : Quad :=
  let c5 := S.px x y
  let cB1 := S.tap x y 0 (-1)
  let cB2 := S.tap x y 1 (-1)
  let c4 := S.tap x y (-1) 0
  let c6 := S.tap x y 1 0
  let cS2 := S.tap x y 2 0
  let c1 := S.tap x y (-1) 1
  let c2 := S.tap x y 0 1
  let c3 := S.tap x y 1 1
  let cS1 := S.tap x y 2 1
  let cA1 := S.tap x y 0 2
  let cA2 := S.tap x y 1 2
  let i := average2 fmt
  let q := fun u v => average4 fmt u u u v
  if c2 = c6 ∧ c5 ≠ c3 then
    { tl := if c1 = c2 ∨ c6 = cB2 then i c2 (i c2 c5) else i c5 c6
      tr := c2
      bl := c2
      br := if c6 = cS2 ∨ c2 = cA1 then i c2 (i c2 c3) else i c2 c3 }
  else if c5 = c3 ∧ c2 ≠ c6 then
    { tl := c5
      tr := if cB1 = c5 ∨ c3 = cS1 then i c5 (i c5 c6) else i c5 c6
      bl := if c3 = cA2 ∨ c4 = c5 then i c5 (i c5 c2) else i c2 c3
      br := c5 }
  else if c5 = c3 ∧ c2 = c6 then
    let r := getResult c6 c5 c1 cA1 + getResult c6 c5 c4 cB1
      + getResult c6 c5 cA2 cS1 + getResult c6 c5 cB2 cS2
    if r > 0 then ⟨i c5 c6, c2, c2, i c5 c6⟩
    else if r < 0 then ⟨c5, i c5 c6, i c5 c6, c5⟩
    else ⟨c5, c2, c2, c5⟩
  else
    { tl := q c5 (i c2 c6)
      tr := q c6 (i c5 c3)
      bl := q c2 (i c5 c3)
      br := q c3 (i c2 c6) }

/-- `Xform_SuperEagle` (42_filters_edge.md R164). -/
def xformSuperEagle (fmt : PixelFormat) (S : Window) (X Y : Nat) : Pixel :=
  (superEagleQuad fmt S (X / 2) (Y / 2)).pick X Y

/-- The four sub-pixels of `Xform_AdvScale2x` (42_filters_edge.md R167), over the letters of R168.
The letters stand here in lower case. -/
def advScale2xQuad (fmt : PixelFormat) (S : Window) (x y : Nat) : Quad :=
  let i := S.tap x y (-1) (-1)
  let e := S.tap x y 0 (-1)
  let f := S.tap x y 1 (-1)
  let j := S.tap x y 2 (-1)
  let g := S.tap x y (-1) 0
  let a := S.px x y
  let b := S.tap x y 1 0
  let k := S.tap x y 2 0
  let h := S.tap x y (-1) 1
  let c := S.tap x y 0 1
  let d := S.tap x y 1 1
  let l := S.tap x y 2 1
  let m := S.tap x y (-1) 2
  let n := S.tap x y 0 2
  let o := S.tap x y 1 2
  let mean := average2 fmt
  if a = d ∧ b ≠ c then
    { tl := a
      tr := if (a = e ∧ b = l) ∨ (a = c ∧ a = f ∧ b ≠ e ∧ b = j) then a else mean a b
      bl := if (a = g ∧ c = o) ∨ (a = b ∧ a = h ∧ g ≠ c ∧ c = m) then a else mean a c
      br := a }
  else if b = c ∧ a ≠ d then
    { tl := a
      tr := if (b = f ∧ a = h) ∨ (b = e ∧ b = d ∧ a ≠ f ∧ a = i) then b else mean a b
      bl := if (c = h ∧ a = f) ∨ (c = g ∧ c = d ∧ a ≠ h ∧ a = i) then c else mean a c
      br := b }
  else if a = d ∧ b = c then
    if a = b then ⟨a, a, a, a⟩
    else
      let r := getResult1 a b g e + getResult2 b a k f + getResult2 b a h n + getResult1 a b l o
      { tl := a
        tr := mean a b
        bl := mean a c
        br := if r > 0 then a else if r < 0 then b else average4 fmt a b c d }
  else
    { tl := a
      tr := if a = c ∧ a = f ∧ b ≠ e ∧ b = j then a
        else if b = e ∧ b = d ∧ a ≠ f ∧ a = i then b else mean a b
      bl := if a = b ∧ a = h ∧ g ≠ c ∧ c = m then a
        else if c = g ∧ c = d ∧ a ≠ h ∧ a = i then c else mean a c
      br := average4 fmt a b c d }

/-- `Xform_AdvScale2x` (42_filters_edge.md R167). -/
def xformAdvScale2x (fmt : PixelFormat) (S : Window) (X Y : Nat) : Pixel :=
  (advScale2xQuad fmt S (X / 2) (Y / 2)).pick X Y

/-- The tap offsets −1, 0, +1, +2 of 43_filter_bicubic.md R181. -/
def bicubicOffset (i : Nat) : Int := (i : Int) - 1

/-- The weight vectors `WB[phase][i]` in 48ths (43_filter_bicubic.md R181). -/
def bicubicWeight (phase i : Nat) : Nat :=
  if phase = 0 then [8, 32, 8, 0].getD i 0 else [1, 23, 23, 1].getD i 0

/-- `acc_c` of 43_filter_bicubic.md R182 for destination column `X` and row `Y`. -/
def bicubicSum (fmt : PixelFormat) (S : Window) (X Y : Nat) (c : Channel) : Nat :=
  ((List.range 4).map fun i =>
    ((List.range 4).map fun j =>
      bicubicWeight (Y % 2) i * bicubicWeight (X % 2) j
        * channelOf fmt c (S.tap (X / 2) (Y / 2) (bicubicOffset j) (bicubicOffset i))).sum).sum

/-- The convolved pixel of 43_filter_bicubic.md R182: one rounding, half up. -/
def bicubicPixel (fmt : PixelFormat) (S : Window) (X Y : Nat) : Pixel :=
  packChannels fmt fun c => (2 * bicubicSum fmt S X Y c + 2304) / 4608

/-- `Xform_Bicubic` (43_filter_bicubic.md R182) with the last-row duplication
(41_filters_basic.md R146). -/
def xformBicubic (fmt : PixelFormat) (S : Window) (X Y : Nat) : Pixel :=
  if Y / 2 + 1 = S.h ∧ Y % 2 = 1 then bicubicPixel fmt S X (Y - 1) else bicubicPixel fmt S X Y

end Sys2Proof.Machine
end

