-- ==== Sys2Proof/Machine/Flip.lean ====
section
/-!
DEFINITION. The FLIP command (46_plugin_commands.md rule R252): one filter invocation of the active
filter plus a present.
-/

namespace Sys2Proof.Machine

open Sys2Proof

/-- The rectangles of a FLIP (46_plugin_commands.md R252, 47_clip_resolver.md R270). -/
def flipClip (s : State) : Clip :=
  resolve s.operand.srcW.toNat s.operand.srcH.toNat (multX s.surface.mult) (multY s.surface.mult)
    s.surface.surfW.toNat s.surface.surfH.toNat

/-- `PixRead(SRC, x, y)` (20_memory.md R63). -/
def srcPixel (s : State) (x y : Nat) : Pixel :=
  s.srcHalf (pixelAddr s.operand.srcPitch.toNat x y)

/-- The source window given to the transform (47_clip_resolver.md R274). -/
def sourceWindow (s : State) (c : Clip) : Window where
  w := c.src.w
  h := c.src.h
  px := fun x y => srcPixel s (c.src.x + x) (c.src.y + y)

/-- `Xform_f(S)` at `(X, Y)` for the active filter (10_state.md R32). -/
def transform (s : State) (S : Window) (X Y : Nat) : Pixel :=
  match s.status.filter with
  | .direct => xformDirect S X Y
  | .superEagle => xformSuperEagle s.fmt S X Y
  | .scale2x => xformScale2x S X Y
  | .advScale2x => xformAdvScale2x s.fmt S X Y
  | .tv2x => xformTv2x s.fmt S X Y
  | .bilinear => xformBilinear s.fmt S X Y
  | .bicubic => xformBicubic s.fmt S X Y
  | .dotMatrix => xformDotMatrix s.params S X Y
  | .monitor2x => xformMonitor2x s.fmt S X Y
  | .ctm644 => xformCtm644 s.params s.fmt s.status.preset s.luma s.triad S X Y

/-- The width and height of the stored image, `src.w·mx` and `src.h·my` (46_plugin_commands.md
R252). -/
def imageWidth (s : State) (c : Clip) : Nat := c.src.w * multX s.surface.mult

/-- See `imageWidth`. -/
def imageHeight (s : State) (c : Clip) : Nat := c.src.h * multY s.surface.mult

/-- Whether the pixels of a `w` by `h` rectangle at `(x, y)` lie in a memory of `size` bytes
(20_memory.md R62, R72). -/
def rectFits (pitch size x y w h : Nat) : Bool :=
  w == 0 || h == 0 || decide (pixelAddr pitch (x + w - 1) (y + h - 1) + 2 ≤ size)

/-- Whether every access of a FLIP is one the spec defines: inside SRC and DST (20_memory.md R62),
and a pixel of the transform's image (00_scope.md R14). 20_memory.md R72: so in every reachable
state (log 11). -/
def flipInRange (s : State) (c : Clip) : Bool :=
  rectFits s.operand.srcPitch.toNat s.params.srcMemBytes c.src.x c.src.y c.src.w c.src.h &&
  rectFits s.operand.dstPitch.toNat s.params.dstMemBytes c.dst.x c.dst.y
    (imageWidth s c) (imageHeight s c) &&
  decide (multX s.surface.mult ≤ multiplier s.status.filter) &&
  decide (multY s.surface.mult ≤ multiplier s.status.filter)

/-- The byte address of the destination pixel a transform's `(X, Y)` is stored at
(46_plugin_commands.md R252, 20_memory.md R63). -/
def flipAddr (s : State) (c : Clip) (X Y : Nat) : Nat :=
  pixelAddr s.operand.dstPitch.toNat (c.dst.x + X) (c.dst.y + Y)

/-- DST after a FLIP (46_plugin_commands.md R252). -/
def flipDst (s : State) (c : Clip) : Memory :=
  storeImage (flipAddr s c) (transform s (sourceWindow s c)) (imageWidth s c) (imageHeight s c) s.dst

/-- The `Present` event of a FLIP (46_plugin_commands.md R243 (b)). -/
def presentEvent (s : State) (c : Clip) : Event :=
  .present s.surface.surfW s.surface.surfH s.operand.dstPitch c.dst (cfgPreserveAspect s.operand.cfg)

/-- The effect of `Flip()` (46_plugin_commands.md R252) once its tests have passed. -/
def flipEffect (s : State) (c : Clip) : State :=
  { s with
    clip := c.regs
    dst := flipDst s c
    trace := s.trace ++ [presentEvent s c]
    result := .ok }

/-- `Flip()` (46_plugin_commands.md R252). -/
def flipBody (s : State) : Result :=
  if s.status.filter = .ctm644 ∧ s.status.lutValid = false then .next (raiseFault .lutUnbuilt s)
  else if flipInRange s (flipClip s) then .next (flipEffect s (flipClip s))
  else .fault .engineOutOfRange

/-- FLIP (46_plugin_commands.md R252). -/
def execFlip (s : State) : Result := lifecycleGate true flipBody s

end Sys2Proof.Machine
end

