-- ==== Sys2Proof/Machine/Init.lean ====
section
/-!
DEFINITION. The ten INIT commands (46_plugin_commands.md rules R241 to R251, R254 to R262).
-/

namespace Sys2Proof.Machine

open Sys2Proof

/-- Unsupported geometry or an odd pitch (46_plugin_commands.md R245). -/
def geometryUnsupported (s : State) : Bool :=
  s.operand.srcW.toNat == 0 || decide (s.params.maxW < s.operand.srcW.toNat) ||
  s.operand.srcH.toNat == 0 || decide (s.params.maxH < s.operand.srcH.toNat) ||
  s.operand.srcPitch.toNat % 2 == 1 || s.operand.dstPitch.toNat % 2 == 1

/-- A pitch below the row size (46_plugin_commands.md R246). -/
def pitchTooShort (f : Filter) (s : State) : Bool :=
  decide (s.operand.srcPitch.toNat < 2 * s.operand.srcW.toNat) ||
  decide (s.operand.dstPitch.toNat < 2 * s.operand.srcW.toNat * multiplier f)

/-- A surface that does not fit its memory (46_plugin_commands.md R247). -/
def overCapacity (f : Filter) (s : State) : Bool :=
  decide (s.params.srcMemBytes < s.operand.srcPitch.toNat * s.operand.srcH.toNat) ||
  decide (s.params.dstMemBytes < s.operand.dstPitch.toNat * s.operand.srcH.toNat * multiplier f)

/-- The backend's answer to the handshake (46_plugin_commands.md R243 (a)): the one a `backend`
action fixed, else the one the program text stands for (30_encoding.md R96), else a free value
(93_implementation_defined.md U8; log 2). -/
def backendReply (s : State) : BackendAnswer :=
  match s.host.answer with
  | some a => a
  | none =>
    match s.host.omitted with
    | some a => a
    | none => Config.backendAnswer s.draws

/-- The `CreateBuffer` request, asked once and recorded with its answer (46_plugin_commands.md R243,
R248). -/
def askCreateBuffer (f : Filter) (s : State) : State :=
  { s with
    trace := s.trace ++ [.createBuffer (s.operand.srcW.toNat * multiplier f)
      (s.operand.srcH.toNat * multiplier f) 16 s.fmt (cfgFullscreen s.operand.cfg) (backendReply s)]
    host := { s.host with answer := none }
    draws := s.draws + 1 }

/-- SURF_H after a successful INIT (10_state.md R29): the exact product where the 32-bit register
holds it, else a value the spec does not state (log 7). -/
def surfaceHeight (s : State) (f : Filter) : Word :=
  if s.operand.srcH.toNat * multiplier f < 2 ^ 32 then
    BitVec.ofNat 32 (s.operand.srcH.toNat * multiplier f)
  else Config.surfaceHeight s.draws

/-- The register and memory writes of a successful INIT (46_plugin_commands.md R241, R249), before
what INIT.CTM644 adds. -/
def activate (f : Filter) (s : State) : State :=
  { s with
    status := { s.status with active := true, filter := f }
    surface := ⟨BitVec.ofNat 32 (s.operand.srcW.toNat * multiplier f), surfaceHeight s f, multWord f⟩
    src := Memory.fresh s.draws
    dst := Memory.fresh s.draws
    draws := s.draws + 1
    result := .ok }

/-- `InitCTM644Extra()` (46_plugin_commands.md R251): BuildLumaLUT and BuildTriadLUT of the preset
CFG.HALF_H selects, when LUT_VALID is 0. -/
def buildTables (s : State) : State :=
  if s.status.lutValid then s
  else
    { s with
      status := { s.status with lutValid := true, preset := cfgPreset s.operand.cfg }
      luma := .built s.fmt
      triad := .built
        (match cfgPreset s.operand.cfg with
          | .full => s.params.presetFull
          | .half => s.params.presetHalf)
        s.fmt }

/-- The success block of `Init(f)` (46_plugin_commands.md R241). -/
def initSuccess (f : Filter) (s : State) : State :=
  if f = .ctm644 then buildTables (activate f s) else activate f s

/-- `Init(f)` (46_plugin_commands.md R241), the tests in the order of 60_exceptions.md R289. -/
def initBody (f : Filter) (s : State) : State :=
  if geometryUnsupported s then failInit .eUnsupported s
  else if pitchTooShort f s then raiseFault .pitch s
  else if overCapacity f s then failInit .eAlloc s
  else
    match backendReply s with
    | .failAlloc => failInit .eAlloc (askCreateBuffer f s)
    | .failUnsupported => failInit .eUnsupported (askCreateBuffer f s)
    | .ok => initSuccess f (askCreateBuffer f s)

/-- An INIT command of a filter: refused in a faulted block, a lifecycle fault while active
(46_plugin_commands.md R240, R250), else `Init(f)`. -/
def initCommand (f : Filter) (s : State) : Result :=
  lifecycleGate false (fun t => .next (initBody f t)) s

/-- INIT.DIRECT (46_plugin_commands.md R254). -/
def execInitDirect (s : State) : Result := initCommand .direct s

/-- INIT.SUPEREAGLE (46_plugin_commands.md R255). -/
def execInitSuperEagle (s : State) : Result := initCommand .superEagle s

/-- INIT.SCALE2X (46_plugin_commands.md R256). -/
def execInitScale2x (s : State) : Result := initCommand .scale2x s

/-- INIT.ASCALE2X (46_plugin_commands.md R257). -/
def execInitAScale2x (s : State) : Result := initCommand .advScale2x s

/-- INIT.TV2X (46_plugin_commands.md R258). -/
def execInitTv2x (s : State) : Result := initCommand .tv2x s

/-- INIT.BILINEAR (46_plugin_commands.md R259). -/
def execInitBilinear (s : State) : Result := initCommand .bilinear s

/-- INIT.BICUBIC (46_plugin_commands.md R260). -/
def execInitBicubic (s : State) : Result := initCommand .bicubic s

/-- INIT.DOTMATRIX (46_plugin_commands.md R261). -/
def execInitDotMatrix (s : State) : Result := initCommand .dotMatrix s

/-- INIT.MONITOR2X (46_plugin_commands.md R262). -/
def execInitMonitor2x (s : State) : Result := initCommand .monitor2x s

/-- INIT.CTM644 (46_plugin_commands.md R251). -/
def execInitCtm644 (s : State) : Result := initCommand .ctm644 s

end Sys2Proof.Machine
end

