-- ==== Sys2Proof/Machine/Palette.lean ====
section
/-!
DEFINITION. The SETPAL command (46_plugin_commands.md rule R253).
-/

namespace Sys2Proof.Machine

open Sys2Proof

/-- A palette entry without its top byte (10_state.md R31). -/
def paletteEntry (v : Word) : Word := v &&& paletteMask

/-- `SetPal()` (46_plugin_commands.md R253): commit PAL_IN to PAL. -/
def setPalBody (s : State) : State := { s with pal := s.palIn.map paletteEntry, result := .ok }

/-- SETPAL (46_plugin_commands.md R253): no backend operation, no other effect. -/
def execSetPal (s : State) : Result := lifecycleGate true (fun t => .next (setPalBody t)) s

end Sys2Proof.Machine
end

