-- ==== Sys2Proof/Machine/Dispatch.lean ====
section
/-! DEFINITION. The meaning of each command, one arm per row of the opcode table. -/

namespace Sys2Proof.Machine

open Sys2Proof

def exec (i : Instr) (s : State) : Host.Outcome State Fault Refusal :=
  match i with
  | .initDirect => Sys2Proof.Machine.execInitDirect s
  | .initSuperEagle => Sys2Proof.Machine.execInitSuperEagle s
  | .initScale2x => Sys2Proof.Machine.execInitScale2x s
  | .initAScale2x => Sys2Proof.Machine.execInitAScale2x s
  | .initTv2x => Sys2Proof.Machine.execInitTv2x s
  | .initBilinear => Sys2Proof.Machine.execInitBilinear s
  | .initBicubic => Sys2Proof.Machine.execInitBicubic s
  | .initDotMatrix => Sys2Proof.Machine.execInitDotMatrix s
  | .initMonitor2x => Sys2Proof.Machine.execInitMonitor2x s
  | .initCtm644 => Sys2Proof.Machine.execInitCtm644 s
  | .setPal => Sys2Proof.Machine.execSetPal s
  | .flip => Sys2Proof.Machine.execFlip s
  | .close => Sys2Proof.Machine.execClose s

end Sys2Proof.Machine
end

