-- ==== Sys2Proof/Machine/HostOps.lean ====
section
/-!
DEFINITION. What the host does to the block between commands: register and memory accesses, the
backend's answer, reset (10_state.md rules R21 to R43, 20_memory.md rules R60 to R65,
70_reset_and_hazards.md rule R311), and how the next host action is fetched (10_state.md rule R40).
-/

namespace Sys2Proof.Machine

open Sys2Proof

/-- The value of a 32-bit register read (10_state.md R21). -/
def regRead (s : State) : Reg → Word
  | .cmd => 0
  | .status => s.statusWord
  | .result => s.result.word
  | .fault => s.fault.word
  | .cfg => s.operand.cfg
  | .srcW => s.operand.srcW
  | .srcH => s.operand.srcH
  | .srcPitch => s.operand.srcPitch
  | .dstPitch => s.operand.dstPitch
  | .surfW => s.surface.surfW
  | .surfH => s.surface.surfH
  | .mult => s.surface.mult
  | .clipSrcX => s.clip.srcX
  | .clipSrcY => s.clip.srcY
  | .clipSrcW => s.clip.srcW
  | .clipSrcH => s.clip.srcH
  | .clipDstX => s.clip.dstX
  | .clipDstY => s.clip.dstY
  | .clipDstW => s.clip.dstW
  | .clipDstH => s.clip.dstH
  | .palIn i => s.palIn[i]
  | .pal i => s.pal[i]
  | .desc f => descWord s.params f

/-- The value of a read at a byte offset of REG: reserved offsets read 0 (10_state.md R43). -/
def offsetRead (s : State) (off : Nat) : Word :=
  match Reg.ofOffset off with
  | some r => regRead s r
  | none => 0

/-- A write of an operand register: ignored while a plugin is active (10_state.md R42). -/
def writeOperand (s : State) (o : OperandRegs) : State :=
  if s.status.active then s else { s with operand := o }

/-- A 32-bit register write other than a command (10_state.md R21, R25, R31, R42): read-only
registers ignore it. A write of CMD is a command and does not come here. -/
def regWrite (s : State) (v : Word) : Reg → State
  | .cfg => writeOperand s { s.operand with cfg := v &&& cfgMask }
  | .srcW => writeOperand s { s.operand with srcW := v }
  | .srcH => writeOperand s { s.operand with srcH := v }
  | .srcPitch => writeOperand s { s.operand with srcPitch := v }
  | .dstPitch => writeOperand s { s.operand with dstPitch := v }
  | .palIn i => { s with palIn := s.palIn.set i (paletteEntry v) }
  | .cmd => s
  | .status => s
  | .result => s
  | .fault => s
  | .surfW => s
  | .surfH => s
  | .mult => s
  | .clipSrcX => s
  | .clipSrcY => s
  | .clipSrcW => s
  | .clipSrcH => s
  | .clipDstX => s
  | .clipDstY => s
  | .clipDstW => s
  | .clipDstH => s
  | .pal _ => s
  | .desc _ => s

/-- A write at a byte offset of REG: reserved offsets ignore it (10_state.md R43). -/
def offsetWrite (s : State) (off : Nat) (v : Word) : State :=
  match Reg.ofOffset off with
  | some r => regWrite s v r
  | none => s

/-- The host takes the value of a read (log 13). -/
def hostReceives (s : State) (v : Word) : State :=
  { s with host := { s.host with reads := s.host.reads ++ [v] } }

/-- The size in bytes of a space (20_memory.md R60). -/
def spaceBytes (s : State) : Space → Nat
  | .src => s.params.srcMemBytes
  | .dst => s.params.dstMemBytes
  | .lumaMem => 65536
  | .triadMem => 786432

/-- The phase of a code p (10_state.md R33). -/
def phaseOfCode (p : Nat) : Phase := if p = 0 then .dim else .bright

/-- The triad channel of a code k (10_state.md R33). -/
def channelOfCode (k : Nat) : Channel := if k = 0 then .red else if k = 1 then .green else .blue

/-- The 16-bit word `n` of TRIADMEM, at byte address `2n` with `n = (k·2 + p)·65536 + s`
(20_memory.md R60). -/
def triadWord (s : State) (n : Nat) : Pixel :=
  s.triad.read (channelOfCode (n / 131072)) (phaseOfCode (n / 65536 % 2)) (BitVec.ofNat 16 n)

/-- Byte `a` of a space (20_memory.md R60, R61). -/
def spaceByte (s : State) (sp : Space) (a : Nat) : Byte :=
  match sp with
  | .src => s.srcByte a
  | .dst => s.dstByte a
  | .lumaMem => s.luma.read (BitVec.ofNat 16 a)
  | .triadMem =>
    if a % 2 = 0 then lowByte (triadWord s (a / 2)) else highByte (triadWord s (a / 2))

/-- The number of bytes of an access. -/
def accessBytes : AccessWidth → Nat
  | .byte => 1
  | .half => 2

/-- `MemRead(space, a, n)` zero-extended to what the host receives (20_memory.md R62). -/
def spaceRead (s : State) (sp : Space) (w : AccessWidth) (a : Nat) : Word :=
  match w with
  | .byte => (spaceByte s sp a).setWidth 32
  | .half => (pixelOfBytes (spaceByte s sp a) (spaceByte s sp (a + 1))).setWidth 32

/-- Whether the host owns a space: SRC only while a plugin is active (10_state.md R37, log 8). -/
def hostOwns (s : State) : Space → Bool
  | .src => s.status.active
  | .dst => true
  | .lumaMem => true
  | .triadMem => true

/-- A host read of a space (20_memory.md R60, R62, R64, R65; logs 8, 9, 10). -/
def hostRead (s : State) (sp : Space) (w : AccessWidth) (a : Nat) : Result :=
  if !(HostAction.read sp w a).wellFormed then .refused .misalignedAccess
  else if !hostOwns s sp then .refused .srcNotOwned
  else if a + accessBytes w ≤ spaceBytes s sp then .next (hostReceives s (spaceRead s sp w a))
  else .fault .hostOutOfRange

/-- A host write of SRC of `n` bytes at `a` that stores through `store` (20_memory.md R60, R62, R64,
R65; logs 8, 9). -/
def hostWrite (s : State) (n a : Nat) (store : Memory → Memory) : Result :=
  if a % n ≠ 0 then .refused .misalignedAccess
  else if !s.status.active then .refused .srcNotOwned
  else if a + n ≤ s.params.srcMemBytes then .next { s with src := store s.src }
  else .fault .hostOutOfRange

/-- The reset input (70_reset_and_hazards.md R310, R311): every piece of the block's state at its
reset value, the contents of the memories and tables newly unspecified; the host agent and the
parameters are not the block's (log 14). -/
def platformReset (s : State) : State :=
  { State.reset with
    luma := .unspecified s.draws
    triad := .unspecified s.draws
    src := Memory.fresh s.draws
    dst := Memory.fresh s.draws
    params := s.params
    host := s.host
    draws := s.draws + 1 }

/-- What a host action other than a command does (30_encoding.md R96). That a `backend` action replaces
an answer still waiting for its handshake is the model's choice (DESIGN CHOICE, unsafe, log 2). -/
def hostAction (a : HostAction) (s : State) : Result :=
  match a with
  | .wr off v => if off % 4 = 0 then .next (offsetWrite s off v) else .refused .misalignedAccess
  | .rd off =>
    if off % 4 = 0 then .next (hostReceives s (offsetRead s off)) else .refused .misalignedAccess
  | .ws x y v =>
    hostWrite s 2 (pixelAddr s.operand.srcPitch.toNat x y) fun m =>
      m.write16 (pixelAddr s.operand.srcPitch.toNat x y) v
  | .rs x y => hostRead s .src .half (pixelAddr s.operand.srcPitch.toNat x y)
  | .rdst x y => hostRead s .dst .half (pixelAddr s.operand.dstPitch.toNat x y)
  | .srcWrite8 b v => hostWrite s 1 b fun m => m.write8 b v
  | .srcWrite16 b v => hostWrite s 2 b fun m => m.write16 b v
  | .read sp w b => hostRead s sp w b
  | .backend ans => .next { s with host := { s.host with answer := some ans } }
  | .reset => .next (platformReset s)

/-- The command word a host action submits: a write at the offset of CMD (10_state.md R22). -/
def commandWord : HostAction → Option Word
  | .wr off v => if off = Reg.offset .cmd then some v else none
  | _ => none

/-- The next action of the host (10_state.md R40). -/
def fetchAction (s : State) : Option HostAction := s.host.program[s.host.cp]?

/-- `cp` advanced by exactly 1 (10_state.md R40). -/
def advance (s : State) : State := { s with host := { s.host with cp := s.host.cp + 1 } }

/-- An outcome with `cp` advanced where there is a next state. -/
def afterAction : Result → Result
  | .next s => .next (advance s)
  | .fault r => .fault r
  | .refused r => .refused r

/-- The state with a host program loaded from outside the machine, at its first action, its
`CreateBuffer` answers `ok` where the text omits them (30_encoding.md R96; logs 1, 2). -/
def State.loadProgram (s : State) (p : List HostAction) : State :=
  { s with host := { s.host with program := p, cp := 0, answer := none, omitted := some .ok } }

/-- The state whose next action is the command word of a table row (log 1). -/
def loadCommand (s : State) (w : Word) : State :=
  { s with host := { s.host with
      program := s.host.program.take s.host.cp ++ .wr (Reg.offset .cmd) w ::
        s.host.program.drop (s.host.cp + 1)
      cp := min s.host.cp s.host.program.length } }

end Sys2Proof.Machine
end

