-- ==== Sys2Proof/Machine/Step.lean ====
section
/-!
DEFINITION. One step of the machine: one host action (00_scope.md rule R10, 10_state.md rule R40). A
write of CMD decodes and runs one command to completion (10_state.md rule R22).
-/

namespace Sys2Proof.Machine

open Sys2Proof

/-- `Exec(c)` (46_plugin_commands.md R240): the refusal of a faulted block stands in the meaning of
every legal command (`lifecycleGate`) and in `illegalCommand`. -/
def execWord (c : Word) (s : State) : Result :=
  match decode c with
  | .ok i => exec i s
  | .error _ => .next (illegalCommand s)

/-- One step: the host's next action, and `cp` advanced by 1 (10_state.md R40); the run ends when
`cp` equals the length of the program. -/
def step (s : State) : Host.Outcome State Fault Refusal :=
  match fetchAction s with
  | none => .fault .runEnded
  | some a =>
    match commandWord a with
    | some c => afterAction (execWord c s)
    | none => afterAction (hostAction a s)

/-- The state whose next step writes the instruction of `nbits` bits `w` to CMD (log 1). -/
def State.withFetchWord (s : State) (nbits w : Nat) : State :=
  loadCommand s (BitVec.ofNat 32 (w % 2 ^ nbits))

end Sys2Proof.Machine
end

