-- ==== Sys2Proof/Machine/HostProgram.lean ====
section
/-!
DEFINITION. The textual host programs of 30_encoding.md rules R96 and R97 as lists of host actions:
the command lines and the pseudo-instructions, each only shorthand for the listed actions.
-/

namespace Sys2Proof.Machine

open Sys2Proof

/-- `wr <REG>, <value>` by register name (30_encoding.md R96). -/
def lineWr (r : Reg) (v : Word) : HostAction := .wr r.offset v

/-- `rd <REG>` by register name (30_encoding.md R96). -/
def lineRd (r : Reg) : HostAction := .rd r.offset

/-- A command line (30_encoding.md R96): one write of CMD. -/
def lineCommand (i : Instr) : HostAction := lineWr .cmd (encode i)

/-- `switch <filter>`: CLOSE then INIT (30_encoding.md R97). -/
def lineSwitch (f : Filter) : List HostAction := [lineCommand .close, lineCommand (initOf f)]

/-- `image <rows>`: the `ws` actions that store the listed rows, row 0 first (30_encoding.md R97). -/
def lineImage (rows : List (List Pixel)) : List HostAction :=
  rows.zipIdx.flatMap fun (row, y) => row.zipIdx.map fun (v, x) => .ws x y v

/-- `fill <value>` for a source of `w` by `h` pixels, in row-major order (30_encoding.md R97). -/
def lineFill (w h : Nat) (v : Pixel) : List HostAction := lineImage (List.replicate h (List.replicate w v))

/-- `setup <W>, <H>, <fmt>` (30_encoding.md R97). Two points are the model's choice: a pitch 2·W or 8·W
that does not fit the 32-bit write is taken modulo 2^32 (DESIGN CHOICE, unsafe, log 19), and the
operand `cfg` is the whole word `<fmt-and-flags>` of the CFG write (DESIGN CHOICE, log 20). -/
def lineSetup (w h cfg : Word) : List HostAction :=
  [lineWr .cfg cfg, lineWr .srcW w, lineWr .srcH h, lineWr .srcPitch (2 * w), lineWr .dstPitch (8 * w)]

end Sys2Proof.Machine
end

