-- ==== Sys2Proof/Safety.lean ====
section
/-!
DEFINITION. What counts as a safe run, in the terms the statements use: the machine invariant that
every step keeps, the lifecycle a correct host follows (46_plugin_commands.md rule R267), and the
block's state apart from the host agent.
-/

namespace Sys2Proof.Machine

open Sys2Proof

/-- What a successful INIT latches until the next CLOSE (46_plugin_commands.md R242, R245 to R247,
R249, 20_memory.md R72, 47_clip_resolver.md R273). -/
structure Latched (s : State) : Prop where
  mult     : s.surface.mult = multWord s.status.filter
  surfW    : s.surface.surfW.toNat = s.operand.srcW.toNat * multiplier s.status.filter
  surfHLe  : s.surface.surfH.toNat ≤ s.operand.srcH.toNat * multiplier s.status.filter
  surfH    : s.operand.srcH.toNat * multiplier s.status.filter < 2 ^ 32 →
    s.surface.surfH.toNat = s.operand.srcH.toNat * multiplier s.status.filter
  width    : 1 ≤ s.operand.srcW.toNat ∧ s.operand.srcW.toNat ≤ s.params.maxW
  height   : 1 ≤ s.operand.srcH.toNat ∧ s.operand.srcH.toNat ≤ s.params.maxH
  even     : s.operand.srcPitch.toNat % 2 = 0 ∧ s.operand.dstPitch.toNat % 2 = 0
  srcPitch : 2 * s.operand.srcW.toNat ≤ s.operand.srcPitch.toNat
  dstPitch : 2 * s.operand.srcW.toNat * multiplier s.status.filter ≤ s.operand.dstPitch.toNat
  srcFits  : s.operand.srcPitch.toNat * s.operand.srcH.toNat ≤ s.params.srcMemBytes
  dstFits  : s.operand.dstPitch.toNat * s.operand.srcH.toNat * multiplier s.status.filter
    ≤ s.params.dstMemBytes
  clip     : s.clip = .zero ∨ s.clip = (flipClip s).regs

/-- The tables of a state whose LUT_VALID is 1 (10_state.md R23, R33, R34, 44_crt_lut_engine.md R195,
R211): built for the latched format from the preset CFG.HALF_H selects. -/
structure TablesBuilt (s : State) : Prop where
  preset : s.status.preset = cfgPreset s.operand.cfg
  luma   : s.luma = .built s.fmt
  triad  : s.triad = .built (presetRecord s.params s.status.preset) s.fmt

/-- The invariant of the machine. -/
structure Inv (s : State) : Prop where
  /-- Both memories are in canonical form and list only addresses that exist (20_memory.md R60). -/
  srcWf       : s.src.wf
  dstWf       : s.dst.wf
  srcIn       : ∀ c ∈ s.src.cells, c.1 < s.params.srcMemBytes
  dstIn       : ∀ c ∈ s.dst.cells, c.1 < s.params.dstMemBytes
  /-- Reserved bits read 0 (10_state.md R25, R31). -/
  cfg         : s.operand.cfg &&& ~~~cfgMask = 0
  palIn       : ∀ i : Fin 32, s.palIn[i] &&& ~~~paletteMask = 0
  pal         : ∀ i : Fin 32, s.pal[i] &&& ~~~paletteMask = 0
  /-- FAULT has at most one bit set (60_exceptions.md R284). -/
  oneFault    : bit s.fault.lifecycle + bit s.fault.pitch + bit s.fault.lutUnbuilt ≤ 1
  /-- What CLOSE and reset leave (46_plugin_commands.md R263, 10_state.md R23). -/
  inactive    : s.status.active = false →
    s.status.filter = .direct ∧ s.surface = ⟨0, 0, 0⟩ ∧ s.clip = .zero
  latched     : s.status.active = true → Latched s
  /-- LUT_VALID is 1 exactly while CTM644 is active (46_plugin_commands.md R251, R263). -/
  lutValid    : s.status.lutValid = true ↔ s.status.active = true ∧ s.status.filter = .ctm644
  tables      : s.status.lutValid = true → TablesBuilt s
  preset      : s.status.lutValid = false → s.status.preset = .full
  /-- The host's index never passes the end of its program (10_state.md R40). -/
  cp          : s.host.cp ≤ s.host.program.length

/-- Whether a command is issued in the lifecycle state it needs (60_exceptions.md R281,
46_plugin_commands.md R267). -/
def lifecycleLegal (i : Instr) (s : State) : Prop :=
  match i with
  | .initDirect => s.status.active = false
  | .initSuperEagle => s.status.active = false
  | .initScale2x => s.status.active = false
  | .initAScale2x => s.status.active = false
  | .initTv2x => s.status.active = false
  | .initBilinear => s.status.active = false
  | .initBicubic => s.status.active = false
  | .initDotMatrix => s.status.active = false
  | .initMonitor2x => s.status.active = false
  | .initCtm644 => s.status.active = false
  | .setPal => s.status.active = true
  | .flip => s.status.active = true
  | .close => s.status.active = true

/-- Whether both pitches hold a row of the filter an INIT activates (10_state.md R28: the pitch
invariant, for a host that never meets F_PITCH). -/
def pitchesHold (f : Filter) (s : State) : Prop :=
  2 * s.operand.srcW.toNat ≤ s.operand.srcPitch.toNat ∧
  2 * s.operand.srcW.toNat * multiplier f ≤ s.operand.dstPitch.toNat

/-- The geometry INIT supports (46_plugin_commands.md R245). -/
def geometrySupported (s : State) : Prop :=
  1 ≤ s.operand.srcW.toNat ∧ s.operand.srcW.toNat ≤ s.params.maxW ∧
  1 ≤ s.operand.srcH.toNat ∧ s.operand.srcH.toNat ≤ s.params.maxH ∧
  s.operand.srcPitch.toNat % 2 = 0 ∧ s.operand.dstPitch.toNat % 2 = 0

/-- Both surfaces fit their memories (46_plugin_commands.md R247). -/
def surfacesFit (f : Filter) (s : State) : Prop :=
  s.operand.srcPitch.toNat * s.operand.srcH.toNat ≤ s.params.srcMemBytes ∧
  s.operand.dstPitch.toNat * s.operand.srcH.toNat * multiplier f ≤ s.params.dstMemBytes

/-- The whole source frame as a window (47_clip_resolver.md R273, 20_memory.md R63). -/
def wholeWindow (s : State) : Window where
  w := s.operand.srcW.toNat
  h := s.operand.srcH.toNat
  px := fun x y => srcPixel s x y

end Sys2Proof.Machine
end

