-- ==== Sys2Proof/Certificates/Slice0/Obligations.lean ====
section
/-!
DEFINITION. The statements for the provers, each from the spec's numbered rules. A statement about a
next state says what changes and what does not; one that rests on a choice of the model says so.
-/

open Sys2Proof Sys2Proof.Machine

/-! ## Encoding -/

/-- The thirteen words of 30_encoding.md R93 decode to the thirteen commands. -/
def Obligations.TableWordsDecode : Prop :=
  decode 0x00000001 = .ok .initDirect ∧ decode 0x00000101 = .ok .initSuperEagle ∧
  decode 0x00000201 = .ok .initScale2x ∧ decode 0x00000301 = .ok .initAScale2x ∧
  decode 0x00000401 = .ok .initTv2x ∧ decode 0x00000501 = .ok .initBilinear ∧
  decode 0x00000601 = .ok .initBicubic ∧ decode 0x00000701 = .ok .initDotMatrix ∧
  decode 0x00000801 = .ok .initMonitor2x ∧ decode 0x00000901 = .ok .initCtm644 ∧
  decode 0x00000002 = .ok .setPal ∧ decode 0x00000003 = .ok .flip ∧ decode 0x00000004 = .ok .close

/-- Decode and encode agree in both directions: of all 2^32 words exactly the encodings decode
(30_encoding.md R91, R93). -/
def Obligations.DecodeIffEncode : Prop :=
  ∀ (c : Word) (i : Instr), i.wellFormed = true → (decode c = .ok i ↔ encode i = c)

/-- Which words are illegal (30_encoding.md R94), over the fields of R90 read as bit slices. -/
def Obligations.IllegalWords : Prop :=
  ∀ c : Word,
    (∃ e, decode c = .error e) ↔
      ((c.extractLsb' 0 8).toNat = 0 ∨ 5 ≤ (c.extractLsb' 0 8).toNat) ∨
      ((c.extractLsb' 0 8).toNat = 1 ∧ 10 ≤ (c.extractLsb' 8 8).toNat) ∨
      (((c.extractLsb' 0 8).toNat = 2 ∨ (c.extractLsb' 0 8).toNat = 3 ∨ (c.extractLsb' 0 8).toNat = 4) ∧
        (c.extractLsb' 8 8).toNat ≠ 0) ∨
      c.extractLsb' 16 16 ≠ 0

/-- The register map (10_state.md R21, R43): every register is found at its offset, and an aligned
offset that is no register's is reserved. -/
def Obligations.RegisterMap : Prop :=
  (∀ r : Reg, Reg.ofOffset r.offset = some r) ∧
  ∀ off : Nat, (0x050 ≤ off ∧ off < 0x080) ∨ 0x1A8 ≤ off → Reg.ofOffset off = none

/-! ## One step -/

/-- A write of a legal word to CMD runs its command, and `cp` advances (10_state.md R22, R40). -/
def Obligations.StepRunsCommand : Prop :=
  ∀ (s : State) (c : Word) (i : Instr), fetchAction s = some (.wr 0 c) → decode c = .ok i →
    i.wellFormed = true → step s = afterAction (exec i s)

/-- An illegal word (60_exceptions.md R282): RESULT = E_ILLEGAL_CMD and nothing else; in a faulted
block the refusal of R284. -/
def Obligations.StepIllegalWord : Prop :=
  ∀ (s : State) (c : Word) (e : DecodeError), fetchAction s = some (.wr 0 c) → decode c = .error e →
    (s.faulted = false → step s = .next (advance { s with result := .eIllegalCmd })) ∧
    (s.faulted = true → step s = .next (advance { s with result := .eFaulted }))

/-- The run ends when `cp` equals the length of the program, and the fetched action is the one `cp`
counts to (10_state.md R40). That the end of the run is a fault of that name is the model's choice
(log 12). -/
def Obligations.StepFollowsIndex : Prop :=
  (∀ s : State, s.host.cp = s.host.program.length → step s = .fault .runEnded) ∧
  ∀ (s : State) (a : HostAction), s.host.program[s.host.cp]? = some a → commandWord a = none →
    step s = afterAction (hostAction a s)

/-- Every step advances `cp` by exactly 1, never branches, and leaves the program and the constant
tables as they are (10_state.md R40, R20 (g)); that a reset keeps the host agent too is the model's
choice (log 14). -/
def Obligations.StepAdvancesByOne : Prop :=
  ∀ s t : State, step s = .next t →
    t.host.cp = s.host.cp + 1 ∧ t.host.program = s.host.program ∧ t.params = s.params

/-- Reset (70_reset_and_hazards.md R310): every register at its reset value; no byte of SRC or DST
is a written one. -/
def Obligations.ResetValues : Prop :=
  State.reset.statusWord = 0 ∧ State.reset.result.word = 0 ∧ State.reset.fault.word = 0 ∧
  State.reset.operand.cfg = 0 ∧ State.reset.operand.srcW = 0 ∧ State.reset.operand.srcH = 0 ∧
  State.reset.operand.srcPitch = 0 ∧ State.reset.operand.dstPitch = 0 ∧
  State.reset.surface.surfW = 0 ∧ State.reset.surface.surfH = 0 ∧ State.reset.surface.mult = 0 ∧
  State.reset.clip = ⟨0, 0, 0, 0, 0, 0, 0, 0⟩ ∧
  (∀ i : Fin 32, State.reset.palIn[i] = 0 ∧ State.reset.pal[i] = 0) ∧
  (∀ a, State.reset.src.byte? a = none ∧ State.reset.dst.byte? a = none) ∧ State.reset.trace = []

/-- The reset state meets the machine invariant. -/
def Obligations.ResetMeetsInv : Prop := Inv State.reset

/-- Every step keeps the machine invariant: memories in canonical form and in range, reserved bits 0,
at most one fault bit, LUT_VALID exactly while CTM644 is active with the tables built, and while a
plugin is active the latched geometry INIT checked (20_memory.md R72, 47_clip_resolver.md R273,
60_exceptions.md R284, 46_plugin_commands.md R249, R251, R263). -/
def Obligations.StepKeepsInv : Prop := ∀ s t : State, Inv s → step s = .next t → Inv t

/-! ## Exceptional outcomes -/

/-- A faulted block answers every word with E_FAULTED and nothing else (60_exceptions.md R284,
46_plugin_commands.md R240). -/
def Obligations.FaultedBlockRefuses : Prop :=
  ∀ (s : State) (c : Word), s.faulted = true → fetchAction s = some (.wr 0 c) →
    step s = .next (advance { s with result := .eFaulted })

/-- Fault bits are sticky: only reset clears one (10_state.md R26, 70_reset_and_hazards.md R311). -/
def Obligations.FaultBitsSticky : Prop :=
  ∀ s t : State, step s = .next t → fetchAction s ≠ some .reset →
    (s.fault.lifecycle = true → t.fault.lifecycle = true) ∧
    (s.fault.pitch = true → t.fault.pitch = true) ∧
    (s.fault.lutUnbuilt = true → t.fault.lutUnbuilt = true)

/-- The lifecycle check (60_exceptions.md R281), before any other test of the command: INIT while
active; SETPAL, FLIP, CLOSE while not. The fault sets its bit and RESULT and nothing else (R284). -/
def Obligations.LifecycleFault : Prop :=
  ∀ s : State, s.faulted = false →
    (s.status.active = true → ∀ f : Filter, exec (initOf f) s =
      .next { s with fault := { s.fault with lifecycle := true }, result := .eFaulted }) ∧
    (s.status.active = false → ∀ i : Instr, i = .setPal ∨ i = .flip ∨ i = .close → exec i s =
      .next { s with fault := { s.fault with lifecycle := true }, result := .eFaulted })

/-- Unsupported geometry or an odd pitch (46_plugin_commands.md R245, 60_exceptions.md R283): RESULT =
E_UNSUPPORTED and nothing else, no `CreateBuffer`. -/
def Obligations.InitUnsupported : Prop :=
  ∀ (f : Filter) (s : State), s.faulted = false → s.status.active = false → ¬ geometrySupported s →
    exec (initOf f) s = .next { s with result := .eUnsupported }

/-- A short pitch (46_plugin_commands.md R246, 60_exceptions.md R285), after the geometry test: the
fault F_PITCH and nothing else. -/
def Obligations.InitShortPitch : Prop :=
  ∀ (f : Filter) (s : State), s.faulted = false → s.status.active = false → geometrySupported s →
    ¬ pitchesHold f s →
    exec (initOf f) s = .next { s with fault := { s.fault with pitch := true }, result := .eFaulted }

/-- Too little memory (46_plugin_commands.md R247, 60_exceptions.md R283), after the pitch test:
RESULT = E_ALLOC and nothing else, no `CreateBuffer`. -/
def Obligations.InitOverCapacity : Prop :=
  ∀ (f : Filter) (s : State), s.faulted = false → s.status.active = false → geometrySupported s →
    pitchesHold f s → ¬ surfacesFit f s → exec (initOf f) s = .next { s with result := .eAlloc }

/-- The backend's answer (46_plugin_commands.md R248, R244): INIT asks once; a failure changes RESULT
and the trace and nothing else of the block; `ok` lets INIT succeed. Where the answer comes from
(`backendReply`) is the model's choice (log 2). -/
def Obligations.InitBackendAnswer : Prop :=
  ∀ (f : Filter) (s : State), s.faulted = false → s.status.active = false → geometrySupported s →
    pitchesHold f s → surfacesFit f s →
    ∃ t, exec (initOf f) s = .next t ∧
      t.trace = s.trace ++ [.createBuffer (s.operand.srcW.toNat * multiplier f)
        (s.operand.srcH.toNat * multiplier f) 16 s.fmt (s.operand.cfg.getLsbD 3) (backendReply s)] ∧
      (backendReply s = .ok → t.result = .ok ∧ t.status.active = true) ∧
      (backendReply s ≠ .ok →
        t.result = (if backendReply s = .failAlloc then .eAlloc else .eUnsupported) ∧
        t.status = s.status ∧ t.fault = s.fault ∧ t.operand = s.operand ∧ t.surface = s.surface ∧
        t.clip = s.clip ∧ t.palIn = s.palIn ∧ t.pal = s.pal ∧ t.luma = s.luma ∧ t.triad = s.triad ∧
        (∀ a, t.srcByte a = s.srcByte a ∧ t.dstByte a = s.dstByte a) ∧ t.params = s.params)

/-- A FLIP of CTM644 without its tables (60_exceptions.md R286), before any other write. -/
def Obligations.FlipWithoutTables : Prop :=
  ∀ s : State, s.faulted = false → s.status.active = true → s.status.filter = .ctm644 →
    s.status.lutValid = false →
    exec .flip s = .next { s with fault := { s.fault with lutUnbuilt := true }, result := .eFaulted }

/-- A host that follows the lifecycle and keeps the pitch invariant is never answered with a fault:
the command completes and the block is not faulted (46_plugin_commands.md R267, 60_exceptions.md
R284, R286). For a FLIP with the free SURF_H of log 7 this rests on the model's choice of log 21. -/
def Obligations.CorrectHostNeverFaults : Prop :=
  ∀ (i : Instr) (s : State), Inv s → s.faulted = false → lifecycleLegal i s →
    (∀ f, i = initOf f → geometrySupported s → pitchesHold f s) →
    ∃ t, exec i s = .next t ∧ t.faulted = false

/-! ## The commands -/

/-- A successful INIT of a filter other than CTM644 (46_plugin_commands.md R241, R249, R254 to R262,
10_state.md R29, R32): its whole effect and its frame, with the multiplier 1 for Direct and 2 for the
other eight. The model's choices: SURF_H is free where a 32-bit register does not hold the product
(log 7), and the host agent's fixed answer is used up (log 2). -/
def Obligations.InitSucceeds : Prop :=
  ∀ (f : Filter) (m : Nat) (s : State), f ≠ .ctm644 → m = (if f = .direct then 1 else 2) →
    s.faulted = false → s.status.active = false →
    geometrySupported s → pitchesHold f s → surfacesFit f s → backendReply s = .ok →
    ∃ t, exec (initOf f) s = .next t ∧
      t.status = { s.status with active := true, filter := f } ∧ t.result = .ok ∧
      t.surface.surfW.toNat = s.operand.srcW.toNat * m ∧
      (s.operand.srcH.toNat * m < 2 ^ 32 → t.surface.surfH.toNat = s.operand.srcH.toNat * m) ∧
      t.surface.mult.toNat = m + 256 * m ∧
      (∀ a, t.src.byte? a = none ∧ t.dst.byte? a = none) ∧
      t.trace = s.trace ++ [.createBuffer (s.operand.srcW.toNat * m) (s.operand.srcH.toNat * m) 16
        s.fmt (s.operand.cfg.getLsbD 3) .ok] ∧
      t.fault = s.fault ∧ t.operand = s.operand ∧ t.clip = s.clip ∧ t.palIn = s.palIn ∧
      t.pal = s.pal ∧ t.luma = s.luma ∧ t.triad = s.triad ∧ t.params = s.params ∧
      t.host = { s.host with answer := none }

/-- A successful INIT.CTM644 (46_plugin_commands.md R251, 44_crt_lut_engine.md R191, R195, R207): the
effect of every INIT, and where LUT_VALID was 0 both tables built from the preset CFG.HALF_H selects;
where it was 1 the tables and the preset are kept. The model's choices are those of `InitSucceeds`
(logs 2, 7). -/
def Obligations.InitCtm644Succeeds : Prop :=
  ∀ s : State, s.faulted = false → s.status.active = false → geometrySupported s →
    pitchesHold .ctm644 s → surfacesFit .ctm644 s → backendReply s = .ok →
    ∃ t, exec .initCtm644 s = .next t ∧
      t.status.active = true ∧ t.status.filter = .ctm644 ∧ t.status.lutValid = true ∧ t.result = .ok ∧
      (s.status.lutValid = false →
        t.status.preset = (if s.operand.cfg.getLsbD 0 then .half else .full) ∧
        (∀ p : Pixel, t.luma.read p = BitVec.ofNat 8 ((expand8 s.fmt p .red * 54
          + expand8 s.fmt p .green * 183 + expand8 s.fmt p .blue * 19) / 256)) ∧
        ∀ k ph p, t.triad.read k ph p = triadEntry
          (if s.operand.cfg.getLsbD 0 then s.params.presetHalf else s.params.presetFull) s.fmt k ph p) ∧
      (s.status.lutValid = true →
        t.status.preset = s.status.preset ∧ t.luma = s.luma ∧ t.triad = s.triad) ∧
      t.surface.surfW.toNat = s.operand.srcW.toNat * 4 ∧
      (s.operand.srcH.toNat * 4 < 2 ^ 32 → t.surface.surfH.toNat = s.operand.srcH.toNat * 4) ∧
      t.surface.mult = 0x0404 ∧
      (∀ a, t.src.byte? a = none ∧ t.dst.byte? a = none) ∧
      t.trace = s.trace ++ [.createBuffer (s.operand.srcW.toNat * 4) (s.operand.srcH.toNat * 4) 16
        s.fmt (s.operand.cfg.getLsbD 3) .ok] ∧
      t.fault = s.fault ∧ t.operand = s.operand ∧ t.clip = s.clip ∧ t.palIn = s.palIn ∧
      t.pal = s.pal ∧ t.params = s.params ∧ t.host = { s.host with answer := none }

/-- SETPAL (46_plugin_commands.md R253): PAL takes PAL_IN without its top bytes, RESULT = OK, and
nothing else changes: no backend event, no byte of SRC or DST. -/
def Obligations.SetPalCommits : Prop :=
  ∀ s : State, s.faulted = false → s.status.active = true →
    ∃ t, exec .setPal s = .next t ∧
      (∀ i : Fin 32, t.pal[i] = s.palIn[i] &&& 0x00FFFFFF) ∧ t.result = .ok ∧
      (∀ a, t.srcByte a = s.srcByte a ∧ t.dstByte a = s.dstByte a) ∧ t.trace = s.trace ∧
      t.status = s.status ∧ t.fault = s.fault ∧ t.operand = s.operand ∧ t.surface = s.surface ∧
      t.clip = s.clip ∧ t.palIn = s.palIn ∧ t.luma = s.luma ∧ t.triad = s.triad ∧
      t.params = s.params ∧ t.host = s.host

/-- CLOSE (46_plugin_commands.md R263): everything it releases and everything it keeps. How a released
table or memory is held is the model's choice (logs 4, 5). -/
def Obligations.CloseReleases : Prop :=
  ∀ s : State, s.faulted = false → s.status.active = true →
    ∃ t, exec .close s = .next t ∧
      t.status.active = false ∧ t.status.filter = .direct ∧ t.surface = ⟨0, 0, 0⟩ ∧
      t.clip = ⟨0, 0, 0, 0, 0, 0, 0, 0⟩ ∧ t.result = .ok ∧
      (∀ a, t.src.byte? a = none ∧ t.dst.byte? a = none) ∧
      (s.status.filter = .ctm644 → t.status.lutValid = false ∧ t.status.preset = .full ∧
        (∀ fmt, t.luma ≠ .built fmt) ∧ ∀ P fmt, t.triad ≠ .built P fmt) ∧
      (s.status.filter ≠ .ctm644 → t.status.lutValid = s.status.lutValid ∧
        t.status.preset = s.status.preset ∧ t.luma = s.luma ∧ t.triad = s.triad) ∧
      t.trace = s.trace ∧ t.fault = s.fault ∧ t.operand = s.operand ∧ t.palIn = s.palIn ∧
      t.pal = s.pal ∧ t.params = s.params ∧ t.host = s.host

/-- FLIP (46_plugin_commands.md R252, 10_state.md R32, 47_clip_resolver.md R273, 20_memory.md R63,
R71): every pixel of the surface holds the pixel that the transform rule of the active filter gives for
the whole source frame, filter by filter, at the address row-pitch addressing gives it; every other byte of DST and every byte of SRC is unchanged; the rectangles are the full frame and
surface; one Present; nothing else changes. The frame's height is one a 32-bit SURF_H holds (log 7). -/
def Obligations.FlipCompletes : Prop :=
  ∀ s : State, Inv s → s.faulted = false → s.status.active = true →
    s.operand.srcH.toNat * multiplier s.status.filter < 2 ^ 32 →
    ∃ t, exec .flip s = .next t ∧
      (∀ X Y, X < s.operand.srcW.toNat * multiplier s.status.filter →
        Y < s.operand.srcH.toNat * multiplier s.status.filter →
        t.dstHalf (Y * s.operand.dstPitch.toNat + 2 * X) =
          match s.status.filter with
          | .direct => xformDirect (wholeWindow s) X Y
          | .superEagle => xformSuperEagle s.fmt (wholeWindow s) X Y
          | .scale2x => xformScale2x (wholeWindow s) X Y
          | .advScale2x => xformAdvScale2x s.fmt (wholeWindow s) X Y
          | .tv2x => xformTv2x s.fmt (wholeWindow s) X Y
          | .bilinear => xformBilinear s.fmt (wholeWindow s) X Y
          | .bicubic => xformBicubic s.fmt (wholeWindow s) X Y
          | .dotMatrix => xformDotMatrix s.params (wholeWindow s) X Y
          | .monitor2x => xformMonitor2x s.fmt (wholeWindow s) X Y
          | .ctm644 => xformCtm644 s.params s.fmt s.status.preset s.luma s.triad (wholeWindow s) X Y) ∧
      (∀ a, (∀ X Y, X < s.operand.srcW.toNat * multiplier s.status.filter →
          Y < s.operand.srcH.toNat * multiplier s.status.filter →
          a ≠ pixelAddr s.operand.dstPitch.toNat X Y ∧
          a ≠ pixelAddr s.operand.dstPitch.toNat X Y + 1) → t.dstByte a = s.dstByte a) ∧
      (∀ a, t.srcByte a = s.srcByte a) ∧
      t.clip = ⟨0, 0, s.operand.srcW, s.operand.srcH, 0, 0, s.surface.surfW, s.surface.surfH⟩ ∧
      t.trace = s.trace ++ [.present s.surface.surfW s.surface.surfH s.operand.dstPitch
        ⟨0, 0, s.surface.surfW.toNat, s.surface.surfH.toNat⟩ (s.operand.cfg.getLsbD 2)] ∧
      t.result = .ok ∧ t.status = s.status ∧ t.fault = s.fault ∧ t.operand = s.operand ∧
      t.surface = s.surface ∧ t.palIn = s.palIn ∧ t.pal = s.pal ∧ t.luma = s.luma ∧
      t.triad = s.triad ∧ t.params = s.params ∧ t.host = s.host

/-- No FLIP of a reachable state leaves its memories: it always completes, without a fault
(20_memory.md R72, 46_plugin_commands.md R252). Where the free SURF_H of log 7 is below the product, the
rectangles are the model's to resolve, and below the multiplier they are empty by its choice (log 21). -/
def Obligations.FlipStaysInRange : Prop :=
  ∀ s : State, Inv s → s.faulted = false → s.status.active = true →
    ∃ t, exec .flip s = .next t ∧ t.faulted = false ∧ t.result = .ok

/-- A FLIP of Direct copies the frame pixel for pixel (41_filters_basic.md R140). -/
def Obligations.FlipDirectCopies : Prop :=
  ∀ s : State, Inv s → s.faulted = false → s.status.active = true → s.status.filter = .direct →
    ∃ t, exec .flip s = .next t ∧
      ∀ x y, x < s.operand.srcW.toNat → y < s.operand.srcH.toNat →
        t.dstHalf (pixelAddr s.operand.dstPitch.toNat x y) =
          s.srcHalf (pixelAddr s.operand.srcPitch.toNat x y)

/-! ## Colour math -/

/-- The per-channel law of `average2` (40_color_math.md R113). -/
def Obligations.Average2ChannelMean : Prop :=
  ∀ (fmt : PixelFormat) (a b : Pixel) (c : Channel),
    channelOf fmt c (average2 fmt a b) = (channelOf fmt c a + channelOf fmt c b) / 2

/-- The per-channel law of `average4` (40_color_math.md R115). -/
def Obligations.Average4ChannelMean : Prop :=
  ∀ (fmt : PixelFormat) (a b c d : Pixel) (k : Channel),
    channelOf fmt k (average4 fmt a b c d) =
      (channelOf fmt k a + channelOf fmt k b + channelOf fmt k c + channelOf fmt k d) / 4

/-- `scaleBrightness` channel by channel (40_color_math.md R116); in RGB555 bit 15 becomes 0. -/
def Obligations.ScaleBrightnessChannels : Prop :=
  ∀ (fmt : PixelFormat) (p : Pixel) (num den : Nat), 1 ≤ den →
    (∀ c, channelOf fmt c (scaleBrightness fmt p num den) =
      min (2 ^ fieldWidth fmt c - 1) (channelOf fmt c p * num / den)) ∧
    (scaleBrightness .rgb555 p num den).getLsbD 15 = false

/-- `blend35` channel by channel (40_color_math.md R117), and its fixed point. -/
def Obligations.Blend35Channels : Prop :=
  (∀ (fmt : PixelFormat) (n p : Pixel) (c : Channel),
    channelOf fmt c (blend35 fmt n p) = (3 * channelOf fmt c n + 5 * channelOf fmt c p) / 8) ∧
  ∀ p : Pixel, blend35 .rgb565 p p = p

/-- Packing undoes the 8-bit expansion (40_color_math.md R118, R119), bit 15 of RGB555 apart. -/
def Obligations.PackUndoesExpand : Prop :=
  ∀ p : Pixel, pack8 .rgb565 (expand8 .rgb565 p) = p ∧ pack8 .rgb555 (expand8 .rgb555 p) = p &&& 0x7FFF

/-! ## Transforms -/

/-- TV 2x (41_filters_basic.md R141): the top sub-row repeats the pixel, each channel `v` of the
bottom sub-row is `(7·v) div 8`. -/
def Obligations.Tv2xScanlines : Prop :=
  ∀ (fmt : PixelFormat) (S : Window) (x y : Nat),
    xformTv2x fmt S (2 * x) (2 * y) = S.px x y ∧ xformTv2x fmt S (2 * x + 1) (2 * y) = S.px x y ∧
    ∀ c, channelOf fmt c (xformTv2x fmt S (2 * x) (2 * y + 1)) = 7 * channelOf fmt c (S.px x y) / 8 ∧
      channelOf fmt c (xformTv2x fmt S (2 * x + 1) (2 * y + 1)) = 7 * channelOf fmt c (S.px x y) / 8

/-- Software bilinear (41_filters_basic.md R145, R147): TL is the source pixel, each channel of TR, BL
and BR the rounded-down mean of the two, two and four pixels it lies between. The border cases: in the
last column TR is the source pixel and BR the mean of three times it and once the pixel below; the
bottom sub-row of the last row repeats its top sub-row. -/
def Obligations.BilinearChannels : Prop :=
  ∀ (fmt : PixelFormat) (S : Window) (x y : Nat), x < S.w → y < S.h →
    xformBilinear fmt S (2 * x) (2 * y) = S.px x y ∧
    (x + 1 = S.w → xformBilinear fmt S (2 * x + 1) (2 * y) = S.px x y) ∧
    (y + 1 = S.h → xformBilinear fmt S (2 * x) (2 * y + 1) = S.px x y ∧
      xformBilinear fmt S (2 * x + 1) (2 * y + 1) = xformBilinear fmt S (2 * x + 1) (2 * y)) ∧
    ∀ c : Channel,
      (x + 1 < S.w → channelOf fmt c (xformBilinear fmt S (2 * x + 1) (2 * y)) =
        (channelOf fmt c (S.px x y) + channelOf fmt c (S.px (x + 1) y)) / 2) ∧
      (y + 1 < S.h → channelOf fmt c (xformBilinear fmt S (2 * x) (2 * y + 1)) =
        (channelOf fmt c (S.px x y) + channelOf fmt c (S.px x (y + 1))) / 2) ∧
      (x + 1 < S.w → y + 1 < S.h → channelOf fmt c (xformBilinear fmt S (2 * x + 1) (2 * y + 1)) =
        (channelOf fmt c (S.px x y) + channelOf fmt c (S.px (x + 1) y)
          + channelOf fmt c (S.px x (y + 1)) + channelOf fmt c (S.px (x + 1) (y + 1))) / 4) ∧
      (x + 1 = S.w → y + 1 < S.h → channelOf fmt c (xformBilinear fmt S (2 * x + 1) (2 * y + 1)) =
        (3 * channelOf fmt c (S.px x y) + channelOf fmt c (S.px x (y + 1))) / 4)

/-- The bottom sub-row of the last source row of Software bilinear and of Software bicubic equals the
top sub-row (41_filters_basic.md R146, 43_filter_bicubic.md R182). -/
def Obligations.LastRowDuplicated : Prop :=
  ∀ (fmt : PixelFormat) (S : Window) (X : Nat), 1 ≤ S.h →
    xformBilinear fmt S X (2 * S.h - 1) = xformBilinear fmt S X (2 * S.h - 2) ∧
    xformBicubic fmt S X (2 * S.h - 1) = xformBicubic fmt S X (2 * S.h - 2)

/-- The dot-matrix filter (41_filters_basic.md R148). -/
def Obligations.DotMatrixPixel : Prop :=
  ∀ (params : Params) (S : Window) (X Y : Nat) (h : Y % 4 * 4 + X % 4 < 16),
    xformDotMatrix params S X Y =
      S.px (X / 2) (Y / 2) ^^^
        ((S.px (X / 2) (Y / 2) >>> params.dotShift.val) &&& params.dotTable[Y % 4 * 4 + X % 4])

/-- Monitor 2x over bilinear (41_filters_basic.md R150): each channel is boosted by 9/8 with a clamp,
and in the bottom sub-row halved after that. -/
def Obligations.Monitor2xChannels : Prop :=
  ∀ (fmt : PixelFormat) (S : Window) (X Y : Nat) (c : Channel),
    channelOf fmt c (xformMonitor2x fmt S X Y) =
      (if Y % 2 = 0 then min (2 ^ fieldWidth fmt c - 1) (channelOf fmt c (xformBilinear fmt S X Y) * 9 / 8)
        else min (2 ^ fieldWidth fmt c - 1) (channelOf fmt c (xformBilinear fmt S X Y) * 9 / 8) / 2)

/-- A flat image stays flat (42_filters_edge.md R161 (a), R164, R167, R169 (b), 41_filters_basic.md
R145, 43_filter_bicubic.md R182): under Scale2x, SuperEagle and Advanced Scale2x in either format,
under Software bilinear and Software bicubic in RGB565. -/
def Obligations.FlatImageStaysFlat : Prop :=
  ∀ (fmt : PixelFormat) (S : Window) (v : Pixel), (∀ x y, x < S.w → y < S.h → S.px x y = v) →
    ∀ X Y, X < 2 * S.w → Y < 2 * S.h →
      xformScale2x S X Y = v ∧ xformAdvScale2x fmt S X Y = v ∧
      xformSuperEagle fmt S X Y = v ∧ xformBilinear .rgb565 S X Y = v ∧ xformBicubic .rgb565 S X Y = v

/-- Scale2x computes no new colour (42_filters_edge.md R161 (b)): every destination pixel is the value
of a pixel of the source; and which pixel it is, sub-pixel by sub-pixel (R160), over the taps above,
left, right and below the centre. -/
def Obligations.Scale2xNoNewColour : Prop :=
  (∀ (S : Window) (X Y : Nat), X < 2 * S.w → Y < 2 * S.h →
    ∃ x y, x < S.w ∧ y < S.h ∧ xformScale2x S X Y = S.px x y) ∧
  ∀ (S : Window) (x y : Nat) (e b d f h : Pixel), e = S.px x y →
    b = (if 0 < y ∧ y - 1 < S.h ∧ x < S.w then S.px x (y - 1) else e) →
    d = (if 0 < x ∧ x - 1 < S.w ∧ y < S.h then S.px (x - 1) y else e) →
    f = (if x + 1 < S.w ∧ y < S.h then S.px (x + 1) y else e) →
    h = (if y + 1 < S.h ∧ x < S.w then S.px x (y + 1) else e) →
    xformScale2x S (2 * x) (2 * y) = (if d = b ∧ b ≠ f ∧ d ≠ h then d else e) ∧
    xformScale2x S (2 * x + 1) (2 * y) = (if b = f ∧ b ≠ d ∧ f ≠ h then f else e) ∧
    xformScale2x S (2 * x) (2 * y + 1) = (if d = h ∧ d ≠ b ∧ h ≠ f then d else e) ∧
    xformScale2x S (2 * x + 1) (2 * y + 1) = (if h = f ∧ d ≠ h ∧ b ≠ f then f else e)

/-- `GetResult` (42_filters_edge.md R162): −1 when both C and D equal A; +1 when neither does and both
equal B; 0 otherwise. -/
def Obligations.GetResultVotes : Prop :=
  ∀ a b c d : Pixel,
    getResult a b c d =
      (if c = a ∧ d = a then -1 else if c ≠ a ∧ d ≠ a ∧ c = b ∧ d = b then 1 else 0)

/-- SuperEagle and Advanced Scale2x stay in the range of the source's pixels, channel by channel
(42_filters_edge.md R166, R169 (d)). -/
def Obligations.EdgeFiltersStayInRange : Prop :=
  ∀ (fmt : PixelFormat) (S : Window) (c : Channel) (lo hi : Nat),
    (∀ x y, x < S.w → y < S.h → lo ≤ channelOf fmt c (S.px x y) ∧ channelOf fmt c (S.px x y) ≤ hi) →
    ∀ X Y, X < 2 * S.w → Y < 2 * S.h →
      (lo ≤ channelOf fmt c (xformSuperEagle fmt S X Y) ∧ channelOf fmt c (xformSuperEagle fmt S X Y) ≤ hi) ∧
      (lo ≤ channelOf fmt c (xformAdvScale2x fmt S X Y) ∧ channelOf fmt c (xformAdvScale2x fmt S X Y) ≤ hi)

/-- Bicubic never produces a channel value outside the range of the taps with non-zero weight
(43_filter_bicubic.md R184). The weights are the 48ths 8, 32, 8, 0 and 1, 23, 23, 1 of R181, each
channel is their weighted sum rounded half up, and every destination pixel but those of the last
sub-row is such a pixel (R182). -/
def Obligations.BicubicStaysInRange : Prop :=
  (∀ (fmt : PixelFormat) (S : Window) (c : Channel) (lo hi X Y : Nat),
    (∀ i j : Nat, i < 4 → j < 4 → bicubicWeight (Y % 2) i ≠ 0 → bicubicWeight (X % 2) j ≠ 0 →
      lo ≤ channelOf fmt c (S.tap (X / 2) (Y / 2) ((j : Int) - 1) ((i : Int) - 1)) ∧
      channelOf fmt c (S.tap (X / 2) (Y / 2) ((j : Int) - 1) ((i : Int) - 1)) ≤ hi) →
    lo ≤ channelOf fmt c (bicubicPixel fmt S X Y) ∧ channelOf fmt c (bicubicPixel fmt S X Y) ≤ hi) ∧
  ((List.range 4).map (bicubicWeight 0) = [8, 32, 8, 0] ∧
    (List.range 4).map (bicubicWeight 1) = [1, 23, 23, 1]) ∧
  ∀ (fmt : PixelFormat) (S : Window) (X Y : Nat),
    (∀ c : Channel, channelOf fmt c (bicubicPixel fmt S X Y) =
      (2 * (∑ i ∈ Finset.range 4, ∑ j ∈ Finset.range 4, bicubicWeight (Y % 2) i * bicubicWeight (X % 2) j
        * channelOf fmt c (S.tap (X / 2) (Y / 2) ((j : Int) - 1) ((i : Int) - 1))) + 2304) / 4608) ∧
    (Y + 1 < 2 * S.h → xformBicubic fmt S X Y = bicubicPixel fmt S X Y)

/-! ## The CRT path -/

/-- The properties of LUMA (44_crt_lut_engine.md R192). -/
def Obligations.LumaProperties : Prop :=
  ∀ fmt : PixelFormat,
    (∀ s : Pixel, lumaEntry fmt s = 255 ↔ ∀ c, expand8 fmt s c = 255) ∧
    (∀ s : Pixel, (∀ c, expand8 fmt s c = 0) → lumaEntry fmt s = 0) ∧
    (∀ s s' : Pixel, (∀ c, channelOf fmt c s ≤ channelOf fmt c s') →
      (lumaEntry fmt s).toNat ≤ (lumaEntry fmt s').toNat) ∧
    (∀ (s : Pixel) (v : Nat), (∀ c, expand8 fmt s c = v) → (lumaEntry fmt s).toNat = v) ∧
    lumaEntry .rgb565 0x0000 = 0 ∧ lumaEntry .rgb565 0xFFFF = 255 ∧
    lumaEntry .rgb555 0x7FFF = 255 ∧ lumaEntry .rgb555 0xFFFF = 255

/-- The gamma table is the rounded real power (44_crt_lut_engine.md R196), for every rational γ > 0: a
record's fields are rationals by the model's choice (log 6). -/
def Obligations.GammaIsRoundedPower : Prop :=
  ∀ (γ : ℚ) (i : Nat), 0 < γ → i ≤ 255 →
    (gammaFn γ i : ℤ) = min 255 (max 0 ⌊(255 : ℝ) * ((i : ℝ) / 255) ^ (1 / (γ : ℝ)) + 1 / 2⌋)

/-- The identity record of 44_crt_lut_engine.md R209 gives `TRIAD[k][p][s] = s` (bit 15 of RGB555
apart), and with tint 0 an entry keeps only channel k. -/
def Obligations.IdentityRecord : Prop :=
  ∀ (k j : Channel) (p : Phase) (s : Pixel) (fmt : PixelFormat),
    triadEntry ⟨1, 1, 1, 0, 0, 1, 0, 1, 1, 0, 1⟩ .rgb565 k p s = s ∧
    triadEntry ⟨1, 1, 1, 0, 0, 1, 0, 1, 1, 0, 1⟩ .rgb555 k p s = s &&& 0x7FFF ∧
    channelOf fmt j (triadEntry ⟨1, 1, 0, 0, 0, 1, 0, 1, 1, 0, 1⟩ fmt k p s) =
      (if j = k then channelOf fmt k s else 0)

/-- The shaped colour stays on `blackFloor..255` (44_crt_lut_engine.md R203). -/
def Obligations.ShapeStaysOnScale : Prop :=
  ∀ (P : TriadParams) (fmt : PixelFormat) (s : Pixel) (j : Channel), P.wellFormed = true →
    P.blackFloor ≤ shape P fmt s j ∧ shape P fmt s j ≤ 255

/-- The smear (45_crt_phosphor.md R222), channel by channel, a neighbour outside the row never bleeding:
1:2:1 in half mode with a side that does not bleed replaced by the centre; 3:5 toward the bleeding
neighbour in full mode, the brighter where both bleed, the left one on a tie. So where neither
neighbour bleeds an RGB565 pixel stays as it is (R223 (a)), and a flat row is unchanged (R223 (d)). -/
def Obligations.SmearKeepsUnbledPixels : Prop :=
  (∀ (fmt : PixelFormat) (k : Channel) (luma : LumaTable) (margin : Nat) (S : Window) (x y : Nat)
      (c l r : Pixel) (bl br : Bool), c = S.px x y → l = S.px (x - 1) y → r = S.px (x + 1) y →
    (bl = true ↔ 0 < x ∧ (luma.read c).toNat + margin < (luma.read l).toNat) →
    (br = true ↔ x + 1 < S.w ∧ (luma.read c).toNat + margin < (luma.read r).toNat) →
    channelOf fmt k (smear fmt .half luma margin S x y) =
      (channelOf fmt k (if bl then l else c) + 2 * channelOf fmt k c
        + channelOf fmt k (if br then r else c)) / 4 ∧
    channelOf fmt k (smear fmt .full luma margin S x y) =
      (3 * channelOf fmt k
        (if bl ∧ br then (if (luma.read r).toNat ≤ (luma.read l).toNat then l else r)
          else if bl then l else if br then r else c) + 5 * channelOf fmt k c) / 8) ∧
  ∀ (preset : Preset) (luma : LumaTable) (margin : Nat) (S : Window) (x y : Nat),
    (0 < x → (luma.read (S.px (x - 1) y)).toNat ≤ (luma.read (S.px x y)).toNat + margin) →
    (x + 1 < S.w → (luma.read (S.px (x + 1) y)).toNat ≤ (luma.read (S.px x y)).toNat + margin) →
    smear .rgb565 preset luma margin S x y = S.px x y

/-- Every output of CTM644 is the table entry `TRIAD[k][p][SM(X div 4, Y div 4)]` with `(k, p)` =
`PAT[Y mod 4][X mod PW]`, the pattern 6 wide in half mode and 12 wide in full mode (45_crt_phosphor.md
R224 to R226, R228 (c)); so in RGB555 its bit 15 is 0; and a destination row depends on one source row
only (R228 (d)). -/
def Obligations.Ctm644Outputs : Prop :=
  (∀ (params : Params) (fmt : PixelFormat) (luma : LumaTable) (triad : TriadTable) (S : Window)
      (X Y : Nat) (k : Channel) (p : Phase) (hY : Y % 4 < 4) (hH : X % 6 < 6) (hF : X % 12 < 12),
    (params.patHalf[Y % 4][X % 6] = (k, p) → xformCtm644 params fmt .half luma triad S X Y =
      triad.read k p (smear fmt .half luma params.lumaMargin.val S (X / 4) (Y / 4))) ∧
    (params.patFull[Y % 4][X % 12] = (k, p) → xformCtm644 params fmt .full luma triad S X Y =
      triad.read k p (smear fmt .full luma params.lumaMargin.val S (X / 4) (Y / 4)))) ∧
  ∀ (params : Params) (preset : Preset) (P : TriadParams) (S : Window) (X Y : Nat),
    (xformCtm644 params .rgb555 preset (.built .rgb555) (.built P .rgb555) S X Y).getLsbD 15 = false ∧
    ∀ (fmt : PixelFormat) (luma : LumaTable) (triad : TriadTable) (S' : Window), S'.w = S.w →
      (∀ x, x < S.w → S'.px x (Y / 4) = S.px x (Y / 4)) → X < 4 * S.w →
      xformCtm644 params fmt preset luma triad S' X Y = xformCtm644 params fmt preset luma triad S X Y

/-! ## The clip resolver -/

/-- The properties of `ResolveAxis` for every legal input (47_clip_resolver.md R272). -/
def Obligations.ResolveAxisProperties : Prop :=
  ∀ n m sz : Nat, 1 ≤ n → m = 1 ∨ m = 2 ∨ m = 4 → m ≤ sz →
    (resolveAxis n m sz).dstLen = (resolveAxis n m sz).srcLen * m ∧
    (resolveAxis n m sz).dstOff + (resolveAxis n m sz).dstLen ≤ sz ∧
    (resolveAxis n m sz).srcOff + (resolveAxis n m sz).srcLen ≤ n ∧
    1 ≤ (resolveAxis n m sz).srcLen ∧
    ((resolveAxis n m sz).dstOff ≤ sz - (resolveAxis n m sz).dstLen - (resolveAxis n m sz).dstOff ∧
      sz - (resolveAxis n m sz).dstLen - (resolveAxis n m sz).dstOff ≤ (resolveAxis n m sz).dstOff + 1) ∧
    ((resolveAxis n m sz).srcOff ≤ n - (resolveAxis n m sz).srcLen - (resolveAxis n m sz).srcOff ∧
      n - (resolveAxis n m sz).srcLen - (resolveAxis n m sz).srcOff ≤ (resolveAxis n m sz).srcOff + 1) ∧
    (sz < n * m → sz - (resolveAxis n m sz).dstLen < m)

/-! ## The host's accesses -/

/-- The freeze (10_state.md R42): while a plugin is active a write of CFG, SRC_W, SRC_H, SRC_PITCH or
DST_PITCH changes nothing; while none is, the register takes the value, CFG without its reserved
bits (R25). -/
def Obligations.OperandFreeze : Prop :=
  ∀ (s : State) (v : Word),
    (s.status.active = true → ∀ r : Reg,
      r = .cfg ∨ r = .srcW ∨ r = .srcH ∨ r = .srcPitch ∨ r = .dstPitch →
      fetchAction s = some (.wr r.offset v) → step s = .next (advance s)) ∧
    (s.status.active = false →
      (fetchAction s = some (.wr 0x010 v) →
        step s = .next (advance { s with operand := { s.operand with cfg := v &&& 0x00007F1F } })) ∧
      (fetchAction s = some (.wr 0x014 v) →
        step s = .next (advance { s with operand := { s.operand with srcW := v } })) ∧
      (fetchAction s = some (.wr 0x018 v) →
        step s = .next (advance { s with operand := { s.operand with srcH := v } })) ∧
      (fetchAction s = some (.wr 0x01C v) →
        step s = .next (advance { s with operand := { s.operand with srcPitch := v } })) ∧
      (fetchAction s = some (.wr 0x020 v) →
        step s = .next (advance { s with operand := { s.operand with dstPitch := v } })))

/-- Writes of read-only registers and of reserved offsets are ignored, reserved offsets read 0
(10_state.md R21, R43). The host's list of values read is the model's (log 13). -/
def Obligations.ReadOnlyWritesIgnored : Prop :=
  (∀ (s : State) (off : Nat) (v : Word), off % 4 = 0 →
    (0x004 ≤ off ∧ off ≤ 0x00C) ∨ (0x024 ≤ off ∧ off < 0x080) ∨ 0x100 ≤ off →
    fetchAction s = some (.wr off v) → step s = .next (advance s)) ∧
  ∀ (s : State) (off : Nat), off % 4 = 0 → (0x050 ≤ off ∧ off < 0x080) ∨ 0x1A8 ≤ off →
    fetchAction s = some (.rd off) → step s = .next (advance (hostReceives s 0))

/-- PAL_IN is writable at any time, active, faulted or not, and drops the top byte (10_state.md R31,
60_exceptions.md R284); no other entry changes and nothing else of the block does. -/
def Obligations.PaletteStaging : Prop :=
  ∀ (s : State) (i : Fin 32) (v : Word), fetchAction s = some (.wr (0x080 + 4 * i.val) v) →
    ∃ t, step s = .next t ∧ t.palIn[i] = v &&& 0x00FFFFFF ∧ (∀ j : Fin 32, j ≠ i → t.palIn[j] = s.palIn[j]) ∧
      t = advance { s with palIn := t.palIn }

/-- The fields of a STATUS read (10_state.md R23), the identifiers 0 to 9 in the order of 00_scope.md R2;
the code a RESULT read gives (R24) and the bits of a FAULT read (R26). The reserved bits read 0. The
host's list of values read is the model's (log 13). -/
def Obligations.StatusFields : Prop :=
  ∀ s : State,
    (fetchAction s = some (.rd 0x004) →
      ∃ v : Word, step s = .next (advance (hostReceives s v)) ∧
        v.getLsbD 0 = s.status.active ∧ v.getLsbD 1 = s.status.lutValid ∧ v.getLsbD 2 = s.faulted ∧
        v.getLsbD 3 = decide (s.status.preset = .half) ∧ v.extractLsb' 4 4 = 0 ∧
        v.extractLsb' 8 4 = (match s.status.filter with
          | .direct => 0
          | .superEagle => 1
          | .scale2x => 2
          | .advScale2x => 3
          | .tv2x => 4
          | .bilinear => 5
          | .bicubic => 6
          | .dotMatrix => 7
          | .monitor2x => 8
          | .ctm644 => 9) ∧ v.extractLsb' 12 20 = 0) ∧
    (fetchAction s = some (.rd 0x008) →
      step s = .next (advance (hostReceives s (match s.result with
        | .ok => 0
        | .eAlloc => 1
        | .eUnsupported => 2
        | .eIllegalCmd => 3
        | .eFaulted => 4)))) ∧
    (fetchAction s = some (.rd 0x00C) →
      ∃ v : Word, step s = .next (advance (hostReceives s v)) ∧
        v.getLsbD 0 = s.fault.lifecycle ∧ v.getLsbD 1 = s.fault.pitch ∧
        v.getLsbD 2 = s.fault.lutUnbuilt ∧ v.extractLsb' 3 29 = 0)

/-- The other registers as the host reads them (10_state.md R21, R22, R25, R27 to R31): CMD reads 0,
every other one what it holds. A read changes nothing but the host's list of values read, which is the
model's (log 13). The host's reads of SRC (while a plugin is active, 10_state.md R37) and of DST, by
bytes and by aligned little-endian pixels, at a byte address and at the address of a pixel
(20_memory.md R60 to R65, 30_encoding.md R96); that `rs` and `rdst` use the address formula for a
column or row beyond the frame too is the model's choice (log 18). -/
def Obligations.HostReads : Prop :=
  ∀ s : State,
    (∀ v, hostReceives s v = { s with host := { s.host with reads := s.host.reads ++ [v] } }) ∧
    (∀ r ∈ ([(0x000, 0), (0x010, s.operand.cfg), (0x014, s.operand.srcW), (0x018, s.operand.srcH),
        (0x01C, s.operand.srcPitch), (0x020, s.operand.dstPitch), (0x024, s.surface.surfW),
        (0x028, s.surface.surfH), (0x02C, s.surface.mult), (0x030, s.clip.srcX), (0x034, s.clip.srcY),
        (0x038, s.clip.srcW), (0x03C, s.clip.srcH), (0x040, s.clip.dstX), (0x044, s.clip.dstY),
        (0x048, s.clip.dstW), (0x04C, s.clip.dstH)] : List (Nat × Word)),
      fetchAction s = some (.rd r.1) → step s = .next (advance (hostReceives s r.2))) ∧
    (∀ i : Fin 32,
      (fetchAction s = some (.rd (0x080 + 4 * i.val)) →
        step s = .next (advance (hostReceives s s.palIn[i]))) ∧
      (fetchAction s = some (.rd (0x100 + 4 * i.val)) →
        step s = .next (advance (hostReceives s s.pal[i])))) ∧
    (∀ a : Nat,
      (s.status.active = true → a < s.params.srcMemBytes →
        fetchAction s = some (.read .src .byte a) →
        step s = .next (advance (hostReceives s ((s.srcByte a).setWidth 32)))) ∧
      (a < s.params.dstMemBytes → fetchAction s = some (.read .dst .byte a) →
        step s = .next (advance (hostReceives s ((s.dstByte a).setWidth 32))))) ∧
    ∀ a : Nat, a % 2 = 0 →
      (s.status.active = true → a + 2 ≤ s.params.srcMemBytes →
        (fetchAction s = some (.read .src .half a) ∨
          ∃ x y, a = y * s.operand.srcPitch.toNat + 2 * x ∧ fetchAction s = some (.rs x y)) →
        step s = .next (advance (hostReceives s
          (BitVec.ofNat 32 ((s.srcByte a).toNat + 256 * (s.srcByte (a + 1)).toNat))))) ∧
      (a + 2 ≤ s.params.dstMemBytes →
        (fetchAction s = some (.read .dst .half a) ∨
          ∃ x y, a = y * s.operand.dstPitch.toNat + 2 * x ∧ fetchAction s = some (.rdst x y)) →
        step s = .next (advance (hostReceives s
          (BitVec.ofNat 32 ((s.dstByte a).toNat + 256 * (s.dstByte (a + 1)).toNat)))))

/-- The fields of a DESC read (10_state.md R32): the multipliers 1 for Direct, 4 for CTM644 and 2 for
the other eight, and the hidden flag. The host's list of values read is the model's (log 13). -/
def Obligations.DescriptorFields : Prop :=
  ∀ (s : State) (f : Filter), fetchAction s = some (.rd (0x180 + 4 * f.id)) →
    ∃ v : Word, step s = .next (advance (hostReceives s v)) ∧
      (v.extractLsb' 0 8).toNat = (if f = .direct then 1 else if f = .ctm644 then 4 else 2) ∧
      (v.extractLsb' 8 8).toNat = (if f = .direct then 1 else if f = .ctm644 then 4 else 2) ∧
      s.params.hidden[f.id]? = some (v.getLsbD 16) ∧ v.extractLsb' 17 15 = 0

/-- A source pixel written is the pixel read, little-endian, at the row-pitch address (20_memory.md
R61, R63, 30_encoding.md R96); no other byte and nothing else of the machine changes. For a column or
row beyond SRC_W or SRC_H, where R63 gives no pixel, that `ws` uses the address formula all the same is
the model's choice (log 18: DEDUCED, unsafe). -/
def Obligations.SourceWriteReadsBack : Prop :=
  ∀ (s : State) (x y : Nat) (v : Pixel), fetchAction s = some (.ws x y v) → s.status.active = true →
    s.operand.srcPitch.toNat % 2 = 0 →
    y * s.operand.srcPitch.toNat + 2 * x + 2 ≤ s.params.srcMemBytes →
    ∃ t, step s = .next t ∧
      srcPixel t x y = v ∧
      (t.srcByte (y * s.operand.srcPitch.toNat + 2 * x)).toNat = v.toNat % 256 ∧
      (t.srcByte (y * s.operand.srcPitch.toNat + 2 * x + 1)).toNat = v.toNat / 256 ∧
      (∀ a, a ≠ y * s.operand.srcPitch.toNat + 2 * x → a ≠ y * s.operand.srcPitch.toNat + 2 * x + 1 →
        t.srcByte a = s.srcByte a) ∧
      t = advance { s with src := t.src }

/-- TRIADMEM (20_memory.md R60): the 16-bit word at byte address `2·((k·2 + p)·65536 + s)` is
`TRIAD[k][p][s]`, and byte s of LUMAMEM is `LUMA[s]`. The host's list of values read is the model's
(log 13). -/
def Obligations.TableSpaces : Prop :=
  ∀ (s : State) (k : Channel) (p : Phase) (q : Pixel),
    (fetchAction s = some (.read .triadMem .half
      (2 * (((match k with | .red => 0 | .green => 1 | .blue => 2) * 2
        + (match p with | .dim => 0 | .bright => 1)) * 65536 + q.toNat))) →
      step s = .next (advance (hostReceives s ((s.triad.read k p q).setWidth 32)))) ∧
    (fetchAction s = some (.read .lumaMem .byte q.toNat) →
      step s = .next (advance (hostReceives s ((s.luma.read q).setWidth 32))))

/-- Reset from any state, a faulted one included (70_reset_and_hazards.md R310, R311): the block is as
after reset, and its memories and tables are unspecified. How these are held, and that the parameters
stay, is the model's choice (logs 4, 5, 14). -/
def Obligations.ResetFromAnyState : Prop :=
  ∀ s : State, fetchAction s = some .reset →
    ∃ t, step s = .next t ∧ t.status = State.reset.status ∧ t.result = .ok ∧ t.faulted = false ∧
      t.fault.word = 0 ∧ t.operand = ⟨0, 0, 0, 0, 0⟩ ∧ t.surface = ⟨0, 0, 0⟩ ∧
      t.clip = ⟨0, 0, 0, 0, 0, 0, 0, 0⟩ ∧ (∀ i : Fin 32, t.palIn[i] = 0 ∧ t.pal[i] = 0) ∧
      (∀ a, t.src.byte? a = none ∧ t.dst.byte? a = none) ∧ (∀ fmt, t.luma ≠ .built fmt) ∧
      (∀ P fmt, t.triad ≠ .built P fmt) ∧ t.trace = [] ∧ t.params = s.params

/-- Only FLIP writes DST and only INIT, CLOSE and reset make it unspecified (10_state.md R38): any
other step leaves every byte of it. -/
def Obligations.DstWrittenByFlipOnly : Prop :=
  ∀ s t : State, step s = .next t → fetchAction s ≠ some .reset →
    (∀ c i, fetchAction s = some (.wr 0 c) → decode c = .ok i → i = .setPal) →
    ∀ a, t.dstByte a = s.dstByte a

/-- LUMA and TRIAD change by INIT.CTM644, CLOSE and reset only (20_memory.md R70, 10_state.md R33,
R34). -/
def Obligations.TablesChangeAtActivation : Prop :=
  ∀ s t : State, step s = .next t → fetchAction s ≠ some .reset →
    (∀ c i, fetchAction s = some (.wr 0 c) → decode c = .ok i → i ≠ .initCtm644 ∧ i ≠ .close) →
    t.luma = s.luma ∧ t.triad = s.triad
end

