-- ==== Sys2Proof/Laws/Memory.lean ====
section
/-!
SUPPORT. The laws of the memory operations: read after write, the canonical form kept by every
operation, the frame of a stored image.
-/

namespace Sys2Proof.Machine

open Sys2Proof

theorem lookupCell_insertCell (a b : Nat) (v : Byte) (l : List Host.Cell) :
    lookupCell a (insertCell b v l) = if a = b then some v else lookupCell a l := by
  induction l with
  | nil => simp [insertCell, lookupCell]
  | cons c rest ih =>
    obtain ⟨k, u⟩ := c
    simp only [insertCell]
    split
    · simp [lookupCell]
    · split
      · simp only [lookupCell]; split <;> simp_all
      · next hne =>
        simp only [lookupCell, ih]
        by_cases hak : a = k
        · rw [if_pos hak, if_neg (show ¬ a = b by omega), if_pos hak]
        · rw [if_neg hak, if_neg hak]

theorem mem_insertCell {c : Host.Cell} {a : Nat} {v : Byte} {l : List Host.Cell}
    (h : c ∈ insertCell a v l) : c = (a, v) ∨ c ∈ l := by
  induction l with
  | nil => simpa [insertCell] using h
  | cons d rest ih =>
    simp only [insertCell] at h
    split at h
    · simpa using h
    · split at h
      · rcases List.mem_cons.1 h with h | h
        · exact .inl h
        · exact .inr (List.mem_cons_of_mem _ h)
      · rcases List.mem_cons.1 h with h | h
        · exact .inr (by simp [h])
        · rcases ih h with h | h
          · exact .inl h
          · exact .inr (List.mem_cons_of_mem _ h)

theorem insertCell_pairwise {a : Nat} {v : Byte} {l : List Host.Cell}
    (h : l.Pairwise fun c d => c.1 < d.1) : (insertCell a v l).Pairwise fun c d => c.1 < d.1 := by
  induction l with
  | nil => simp [insertCell]
  | cons d rest ih =>
    obtain ⟨k, u⟩ := d
    obtain ⟨hk, hr⟩ := List.pairwise_cons.1 h
    simp only [insertCell]
    split
    · next hlt =>
      refine List.pairwise_cons.2 ⟨fun c hc => ?_, h⟩
      rcases List.mem_cons.1 hc with rfl | hc
      · exact hlt
      · exact hlt.trans (hk c hc)
    · split
      · next heq => exact List.pairwise_cons.2 ⟨fun c hc => heq ▸ hk c hc, hr⟩
      · refine List.pairwise_cons.2 ⟨fun c hc => ?_, ih hr⟩
        rcases mem_insertCell hc with rfl | hc
        · show k < a; omega
        · exact hk c hc

/-! A single write. -/

/-- Read after a byte write. -/
@[simp] theorem Memory.byte?_write8 (m : Memory) (a b : Nat) (v : Byte) :
    (m.write8 b v).byte? a = if a = b then some v else m.byte? a :=
  lookupCell_insertCell a b v m.cells

/-- Read after a 16-bit write (20_memory.md R61): the low byte at `b`, the high byte at `b + 1`. -/
@[simp] theorem Memory.byte?_write16 (m : Memory) (a b : Nat) (v : Pixel) :
    (m.write16 b v).byte? a =
      if a = b + 1 then some (highByte v) else if a = b then some (lowByte v) else m.byte? a := by
  simp [Memory.write16]

@[simp] theorem Memory.epoch_write8 (m : Memory) (a : Nat) (v : Byte) : (m.write8 a v).epoch = m.epoch := rfl

@[simp] theorem Memory.epoch_write16 (m : Memory) (a : Nat) (v : Pixel) :
    (m.write16 a v).epoch = m.epoch := rfl

/-- Nothing is listed in a memory an event made unspecified. -/
@[simp] theorem Memory.byte?_fresh (n a : Nat) : (Memory.fresh n).byte? a = none := rfl

theorem Memory.wf_fresh (n : Nat) : (Memory.fresh n).wf := List.Pairwise.nil

theorem Memory.wf_write8 {m : Memory} (h : m.wf) (a : Nat) (v : Byte) : (m.write8 a v).wf :=
  insertCell_pairwise h

theorem Memory.wf_write16 {m : Memory} (h : m.wf) (a : Nat) (v : Pixel) : (m.write16 a v).wf :=
  Memory.wf_write8 (Memory.wf_write8 h _ _) _ _

/-- Every listed address lies below `n`. -/
def Memory.below (n : Nat) (m : Memory) : Prop := ∀ c ∈ m.cells, c.1 < n

theorem Memory.below_write8 {m : Memory} {n a : Nat} (h : m.below n) (ha : a < n) (v : Byte) :
    (m.write8 a v).below n := by
  intro c hc
  rcases mem_insertCell hc with rfl | hc
  · exact ha
  · exact h c hc

theorem Memory.below_write16 {m : Memory} {n a : Nat} (h : m.below n) (ha : a + 2 ≤ n) (v : Pixel) :
    (m.write16 a v).below n :=
  Memory.below_write8 (Memory.below_write8 h (by omega) _) (by omega) _

/-- The bytes of a pixel give the pixel back (20_memory.md R61, R62). -/
@[simp] theorem pixelOfBytes_bytes (v : Pixel) : pixelOfBytes (lowByte v) (highByte v) = v := by
  apply BitVec.eq_of_getLsbD_eq
  intro i hi
  simp only [pixelOfBytes, lowByte, highByte, BitVec.getLsbD_append, BitVec.getLsbD_extractLsb']
  split
  · simp [*]
  · rw [show 8 + (i - 8) = i by omega]; simp; omega

/-! A stored row and a stored image: what every `foldl` of writes keeps. -/

theorem foldl_keeps {α : Type} (P : Memory → Prop) (f : Memory → α → Memory) (l : List α) {m : Memory}
    (h : P m) (hf : ∀ m x, x ∈ l → P m → P (f m x)) : P (l.foldl f m) := by
  induction l generalizing m with
  | nil => exact h
  | cons x rest ih =>
    exact ih (hf m x (by simp) h) fun m y hy => hf m y (List.mem_cons_of_mem _ hy)

/-- Whatever every pixel write of an image keeps, the stored image keeps. -/
theorem storeImage_keeps (P : Memory → Prop) {addr : Nat → Nat → Nat} {px : Nat → Nat → Pixel}
    {w h : Nat} {m : Memory} (hm : P m)
    (hf : ∀ m X Y, X < w → Y < h → P m → P (m.write16 (addr X Y) (px X Y))) :
    P (storeImage addr px w h m) :=
  foldl_keeps P _ _ hm fun _ Y hY hm =>
    foldl_keeps P _ _ hm fun m' X hX hm => hf m' X Y (List.mem_range.1 hX) (List.mem_range.1 hY) hm

theorem storeImage_wf {addr : Nat → Nat → Nat} {px : Nat → Nat → Pixel} {w h : Nat} {m : Memory}
    (hm : m.wf) : (storeImage addr px w h m).wf :=
  storeImage_keeps Memory.wf hm fun _ _ _ _ _ hm => Memory.wf_write16 hm _ _

theorem storeImage_epoch {addr : Nat → Nat → Nat} {px : Nat → Nat → Pixel} {w h : Nat} {m : Memory} :
    (storeImage addr px w h m).epoch = m.epoch :=
  storeImage_keeps (fun m' => m'.epoch = m.epoch) rfl fun _ _ _ _ _ h => h

/-- The frame of a stored image: a byte of no stored pixel keeps what it held. -/
theorem storeImage_byte?_frame {addr : Nat → Nat → Nat} {px : Nat → Nat → Pixel} {w h a : Nat}
    {m : Memory} (ha : ∀ X Y, X < w → Y < h → a ≠ addr X Y ∧ a ≠ addr X Y + 1) :
    (storeImage addr px w h m).byte? a = m.byte? a :=
  storeImage_keeps (fun m' => m'.byte? a = m.byte? a) rfl fun m' X Y hX hY hm => by
    have := ha X Y hX hY
    simp [this.1, this.2, hm]

theorem storeImage_succ (addr : Nat → Nat → Nat) (px : Nat → Nat → Pixel) (w h : Nat) (m : Memory) :
    storeImage addr px w (h + 1) m =
      storeRow (fun X => addr X h) (fun X => px X h) w (storeImage addr px w h m) := by
  simp [storeImage, List.range_succ]

theorem storeRow_succ (addr : Nat → Nat) (px : Nat → Pixel) (w : Nat) (m : Memory) :
    storeRow addr px (w + 1) m = (storeRow addr px w m).write16 (addr w) (px w) := by
  simp [storeRow, List.range_succ]

/-- A stored row holds its pixels, where no two of them overlap. -/
theorem storeRow_holds {addr : Nat → Nat} {px : Nat → Pixel} {w : Nat} {m : Memory}
    (hd : ∀ X X', X < X' → X' < w → addr X + 2 ≤ addr X') {X : Nat} (hX : X < w) :
    (storeRow addr px w m).byte? (addr X) = some (lowByte (px X)) ∧
    (storeRow addr px w m).byte? (addr X + 1) = some (highByte (px X)) := by
  induction w with
  | zero => omega
  | succ w ih =>
    rw [storeRow_succ]
    rcases Nat.lt_succ_iff_lt_or_eq.1 hX with h | rfl
    · have hh := hd X w h (by omega)
      obtain ⟨h1, h2⟩ := ih (fun X X' a b => hd X X' a (by omega)) h
      constructor
      · rw [Memory.byte?_write16, if_neg (by omega), if_neg (by omega), h1]
      · rw [Memory.byte?_write16, if_neg (by omega), if_neg (by omega), h2]
    · simp

/-- A stored row keeps every byte of no stored pixel. -/
theorem storeRow_byte?_frame {addr : Nat → Nat} {px : Nat → Pixel} {w a : Nat} {m : Memory}
    (ha : ∀ X, X < w → a ≠ addr X ∧ a ≠ addr X + 1) : (storeRow addr px w m).byte? a = m.byte? a :=
  foldl_keeps (fun m' => m'.byte? a = m.byte? a) _ _ rfl fun m' X hX hm => by
    have := ha X (List.mem_range.1 hX)
    simp [this.1, this.2, hm]

/-- A stored image holds its pixels, where no two of them overlap. -/
theorem storeImage_holds {addr : Nat → Nat → Nat} {px : Nat → Nat → Pixel} {w h : Nat} {m : Memory}
    (hrow : ∀ X X' Y, X < X' → X' < w → addr X Y + 2 ≤ addr X' Y)
    (hcol : ∀ X X' Y Y', X < w → X' < w → Y < Y' → addr X Y + 2 ≤ addr X' Y')
    {X Y : Nat} (hX : X < w) (hY : Y < h) :
    (storeImage addr px w h m).byte? (addr X Y) = some (lowByte (px X Y)) ∧
    (storeImage addr px w h m).byte? (addr X Y + 1) = some (highByte (px X Y)) := by
  induction h with
  | zero => omega
  | succ h ih =>
    rw [storeImage_succ]
    rcases Nat.lt_succ_iff_lt_or_eq.1 hY with hlt | rfl
    · have hne : ∀ X', X' < w → addr X Y + 2 ≤ addr X' h := fun X' hX' => hcol X X' Y h hX hX' hlt
      rw [storeRow_byte?_frame fun X' hX' => by have := hne X' hX'; omega,
        storeRow_byte?_frame fun X' hX' => by have := hne X' hX'; omega]
      exact ih hlt
    · exact storeRow_holds (addr := fun X => addr X Y) (px := fun X => px X Y)
        (fun X X' a b => hrow X X' Y a b) hX

end Sys2Proof.Machine
end

