-- ==== Sys2Proof/Laws/State.lean ====
section
/-!
SUPPORT. One lemma per field per update of the state, so that no later proof unfolds a record update.
-/

namespace Sys2Proof.Machine

open Sys2Proof

@[simp] theorem State.setResult_status (s : State) (r : ResultCode) :
    (s.setResult r).status = s.status := rfl
@[simp] theorem State.setResult_result (s : State) (r : ResultCode) : (s.setResult r).result = r := rfl
@[simp] theorem State.setResult_fault (s : State) (r : ResultCode) : (s.setResult r).fault = s.fault := rfl
@[simp] theorem State.setResult_operand (s : State) (r : ResultCode) :
    (s.setResult r).operand = s.operand := rfl
@[simp] theorem State.setResult_surface (s : State) (r : ResultCode) :
    (s.setResult r).surface = s.surface := rfl
@[simp] theorem State.setResult_clip (s : State) (r : ResultCode) : (s.setResult r).clip = s.clip := rfl
@[simp] theorem State.setResult_palIn (s : State) (r : ResultCode) : (s.setResult r).palIn = s.palIn := rfl
@[simp] theorem State.setResult_pal (s : State) (r : ResultCode) : (s.setResult r).pal = s.pal := rfl
@[simp] theorem State.setResult_luma (s : State) (r : ResultCode) : (s.setResult r).luma = s.luma := rfl
@[simp] theorem State.setResult_triad (s : State) (r : ResultCode) : (s.setResult r).triad = s.triad := rfl
@[simp] theorem State.setResult_src (s : State) (r : ResultCode) : (s.setResult r).src = s.src := rfl
@[simp] theorem State.setResult_dst (s : State) (r : ResultCode) : (s.setResult r).dst = s.dst := rfl
@[simp] theorem State.setResult_trace (s : State) (r : ResultCode) : (s.setResult r).trace = s.trace := rfl
@[simp] theorem State.setResult_params (s : State) (r : ResultCode) :
    (s.setResult r).params = s.params := rfl
@[simp] theorem State.setResult_host (s : State) (r : ResultCode) : (s.setResult r).host = s.host := rfl
@[simp] theorem State.setResult_draws (s : State) (r : ResultCode) : (s.setResult r).draws = s.draws := rfl

@[simp] theorem raiseFault_status (c : FaultCause) (s : State) : (raiseFault c s).status = s.status := rfl
@[simp] theorem raiseFault_result (c : FaultCause) (s : State) : (raiseFault c s).result = .eFaulted := rfl
@[simp] theorem raiseFault_fault (c : FaultCause) (s : State) : (raiseFault c s).fault = s.fault.set c := rfl
@[simp] theorem raiseFault_operand (c : FaultCause) (s : State) : (raiseFault c s).operand = s.operand := rfl
@[simp] theorem raiseFault_surface (c : FaultCause) (s : State) : (raiseFault c s).surface = s.surface := rfl
@[simp] theorem raiseFault_clip (c : FaultCause) (s : State) : (raiseFault c s).clip = s.clip := rfl
@[simp] theorem raiseFault_palIn (c : FaultCause) (s : State) : (raiseFault c s).palIn = s.palIn := rfl
@[simp] theorem raiseFault_pal (c : FaultCause) (s : State) : (raiseFault c s).pal = s.pal := rfl
@[simp] theorem raiseFault_luma (c : FaultCause) (s : State) : (raiseFault c s).luma = s.luma := rfl
@[simp] theorem raiseFault_triad (c : FaultCause) (s : State) : (raiseFault c s).triad = s.triad := rfl
@[simp] theorem raiseFault_src (c : FaultCause) (s : State) : (raiseFault c s).src = s.src := rfl
@[simp] theorem raiseFault_dst (c : FaultCause) (s : State) : (raiseFault c s).dst = s.dst := rfl
@[simp] theorem raiseFault_trace (c : FaultCause) (s : State) : (raiseFault c s).trace = s.trace := rfl
@[simp] theorem raiseFault_params (c : FaultCause) (s : State) : (raiseFault c s).params = s.params := rfl
@[simp] theorem raiseFault_host (c : FaultCause) (s : State) : (raiseFault c s).host = s.host := rfl
@[simp] theorem raiseFault_draws (c : FaultCause) (s : State) : (raiseFault c s).draws = s.draws := rfl

@[simp] theorem refuseFaulted_status (s : State) : (refuseFaulted s).status = s.status := rfl
@[simp] theorem refuseFaulted_result (s : State) : (refuseFaulted s).result = .eFaulted := rfl
@[simp] theorem refuseFaulted_fault (s : State) : (refuseFaulted s).fault = s.fault := rfl
@[simp] theorem refuseFaulted_operand (s : State) : (refuseFaulted s).operand = s.operand := rfl
@[simp] theorem refuseFaulted_surface (s : State) : (refuseFaulted s).surface = s.surface := rfl
@[simp] theorem refuseFaulted_clip (s : State) : (refuseFaulted s).clip = s.clip := rfl
@[simp] theorem refuseFaulted_palIn (s : State) : (refuseFaulted s).palIn = s.palIn := rfl
@[simp] theorem refuseFaulted_pal (s : State) : (refuseFaulted s).pal = s.pal := rfl
@[simp] theorem refuseFaulted_luma (s : State) : (refuseFaulted s).luma = s.luma := rfl
@[simp] theorem refuseFaulted_triad (s : State) : (refuseFaulted s).triad = s.triad := rfl
@[simp] theorem refuseFaulted_src (s : State) : (refuseFaulted s).src = s.src := rfl
@[simp] theorem refuseFaulted_dst (s : State) : (refuseFaulted s).dst = s.dst := rfl
@[simp] theorem refuseFaulted_trace (s : State) : (refuseFaulted s).trace = s.trace := rfl
@[simp] theorem refuseFaulted_params (s : State) : (refuseFaulted s).params = s.params := rfl
@[simp] theorem refuseFaulted_host (s : State) : (refuseFaulted s).host = s.host := rfl
@[simp] theorem refuseFaulted_draws (s : State) : (refuseFaulted s).draws = s.draws := rfl

@[simp] theorem failInit_status (r : ResultCode) (s : State) : (failInit r s).status = s.status := rfl
@[simp] theorem failInit_result (r : ResultCode) (s : State) : (failInit r s).result = r := rfl
@[simp] theorem failInit_fault (r : ResultCode) (s : State) : (failInit r s).fault = s.fault := rfl
@[simp] theorem failInit_operand (r : ResultCode) (s : State) : (failInit r s).operand = s.operand := rfl
@[simp] theorem failInit_surface (r : ResultCode) (s : State) : (failInit r s).surface = s.surface := rfl
@[simp] theorem failInit_clip (r : ResultCode) (s : State) : (failInit r s).clip = s.clip := rfl
@[simp] theorem failInit_palIn (r : ResultCode) (s : State) : (failInit r s).palIn = s.palIn := rfl
@[simp] theorem failInit_pal (r : ResultCode) (s : State) : (failInit r s).pal = s.pal := rfl
@[simp] theorem failInit_luma (r : ResultCode) (s : State) : (failInit r s).luma = s.luma := rfl
@[simp] theorem failInit_triad (r : ResultCode) (s : State) : (failInit r s).triad = s.triad := rfl
@[simp] theorem failInit_src (r : ResultCode) (s : State) : (failInit r s).src = s.src := rfl
@[simp] theorem failInit_dst (r : ResultCode) (s : State) : (failInit r s).dst = s.dst := rfl
@[simp] theorem failInit_trace (r : ResultCode) (s : State) : (failInit r s).trace = s.trace := rfl
@[simp] theorem failInit_params (r : ResultCode) (s : State) : (failInit r s).params = s.params := rfl
@[simp] theorem failInit_host (r : ResultCode) (s : State) : (failInit r s).host = s.host := rfl
@[simp] theorem failInit_draws (r : ResultCode) (s : State) : (failInit r s).draws = s.draws := rfl

@[simp] theorem askCreateBuffer_status (f : Filter) (s : State) :
    (askCreateBuffer f s).status = s.status := rfl
@[simp] theorem askCreateBuffer_result (f : Filter) (s : State) :
    (askCreateBuffer f s).result = s.result := rfl
@[simp] theorem askCreateBuffer_fault (f : Filter) (s : State) : (askCreateBuffer f s).fault = s.fault := rfl
@[simp] theorem askCreateBuffer_operand (f : Filter) (s : State) :
    (askCreateBuffer f s).operand = s.operand := rfl
@[simp] theorem askCreateBuffer_surface (f : Filter) (s : State) :
    (askCreateBuffer f s).surface = s.surface := rfl
@[simp] theorem askCreateBuffer_clip (f : Filter) (s : State) : (askCreateBuffer f s).clip = s.clip := rfl
@[simp] theorem askCreateBuffer_palIn (f : Filter) (s : State) : (askCreateBuffer f s).palIn = s.palIn := rfl
@[simp] theorem askCreateBuffer_pal (f : Filter) (s : State) : (askCreateBuffer f s).pal = s.pal := rfl
@[simp] theorem askCreateBuffer_luma (f : Filter) (s : State) : (askCreateBuffer f s).luma = s.luma := rfl
@[simp] theorem askCreateBuffer_triad (f : Filter) (s : State) : (askCreateBuffer f s).triad = s.triad := rfl
@[simp] theorem askCreateBuffer_src (f : Filter) (s : State) : (askCreateBuffer f s).src = s.src := rfl
@[simp] theorem askCreateBuffer_dst (f : Filter) (s : State) : (askCreateBuffer f s).dst = s.dst := rfl
@[simp] theorem askCreateBuffer_trace (f : Filter) (s : State) : (askCreateBuffer f s).trace = s.trace ++
      [.createBuffer (s.operand.srcW.toNat * multiplier f) (s.operand.srcH.toNat * multiplier f) 16
        s.fmt (cfgFullscreen s.operand.cfg) (backendReply s)] := rfl
@[simp] theorem askCreateBuffer_params (f : Filter) (s : State) :
    (askCreateBuffer f s).params = s.params := rfl
@[simp] theorem askCreateBuffer_host (f : Filter) (s : State) :
    (askCreateBuffer f s).host = { s.host with answer := none } := rfl
@[simp] theorem askCreateBuffer_draws (f : Filter) (s : State) :
    (askCreateBuffer f s).draws = s.draws + 1 := rfl

@[simp] theorem activate_status (f : Filter) (s : State) :
    (activate f s).status = { s.status with active := true, filter := f } := rfl
@[simp] theorem activate_result (f : Filter) (s : State) : (activate f s).result = .ok := rfl
@[simp] theorem activate_fault (f : Filter) (s : State) : (activate f s).fault = s.fault := rfl
@[simp] theorem activate_operand (f : Filter) (s : State) : (activate f s).operand = s.operand := rfl
@[simp] theorem activate_surface (f : Filter) (s : State) : (activate f s).surface = 
      ⟨BitVec.ofNat 32 (s.operand.srcW.toNat * multiplier f), surfaceHeight s f, multWord f⟩ := rfl
@[simp] theorem activate_clip (f : Filter) (s : State) : (activate f s).clip = s.clip := rfl
@[simp] theorem activate_palIn (f : Filter) (s : State) : (activate f s).palIn = s.palIn := rfl
@[simp] theorem activate_pal (f : Filter) (s : State) : (activate f s).pal = s.pal := rfl
@[simp] theorem activate_luma (f : Filter) (s : State) : (activate f s).luma = s.luma := rfl
@[simp] theorem activate_triad (f : Filter) (s : State) : (activate f s).triad = s.triad := rfl
@[simp] theorem activate_src (f : Filter) (s : State) : (activate f s).src = Memory.fresh s.draws := rfl
@[simp] theorem activate_dst (f : Filter) (s : State) : (activate f s).dst = Memory.fresh s.draws := rfl
@[simp] theorem activate_trace (f : Filter) (s : State) : (activate f s).trace = s.trace := rfl
@[simp] theorem activate_params (f : Filter) (s : State) : (activate f s).params = s.params := rfl
@[simp] theorem activate_host (f : Filter) (s : State) : (activate f s).host = s.host := rfl
@[simp] theorem activate_draws (f : Filter) (s : State) : (activate f s).draws = s.draws + 1 := rfl

@[simp] theorem setPalBody_status (s : State) : (setPalBody s).status = s.status := rfl
@[simp] theorem setPalBody_result (s : State) : (setPalBody s).result = .ok := rfl
@[simp] theorem setPalBody_fault (s : State) : (setPalBody s).fault = s.fault := rfl
@[simp] theorem setPalBody_operand (s : State) : (setPalBody s).operand = s.operand := rfl
@[simp] theorem setPalBody_surface (s : State) : (setPalBody s).surface = s.surface := rfl
@[simp] theorem setPalBody_clip (s : State) : (setPalBody s).clip = s.clip := rfl
@[simp] theorem setPalBody_palIn (s : State) : (setPalBody s).palIn = s.palIn := rfl
@[simp] theorem setPalBody_pal (s : State) : (setPalBody s).pal = s.palIn.map paletteEntry := rfl
@[simp] theorem setPalBody_luma (s : State) : (setPalBody s).luma = s.luma := rfl
@[simp] theorem setPalBody_triad (s : State) : (setPalBody s).triad = s.triad := rfl
@[simp] theorem setPalBody_src (s : State) : (setPalBody s).src = s.src := rfl
@[simp] theorem setPalBody_dst (s : State) : (setPalBody s).dst = s.dst := rfl
@[simp] theorem setPalBody_trace (s : State) : (setPalBody s).trace = s.trace := rfl
@[simp] theorem setPalBody_params (s : State) : (setPalBody s).params = s.params := rfl
@[simp] theorem setPalBody_host (s : State) : (setPalBody s).host = s.host := rfl
@[simp] theorem setPalBody_draws (s : State) : (setPalBody s).draws = s.draws := rfl

@[simp] theorem flipEffect_status (s : State) (c : Clip) : (flipEffect s c).status = s.status := rfl
@[simp] theorem flipEffect_result (s : State) (c : Clip) : (flipEffect s c).result = .ok := rfl
@[simp] theorem flipEffect_fault (s : State) (c : Clip) : (flipEffect s c).fault = s.fault := rfl
@[simp] theorem flipEffect_operand (s : State) (c : Clip) : (flipEffect s c).operand = s.operand := rfl
@[simp] theorem flipEffect_surface (s : State) (c : Clip) : (flipEffect s c).surface = s.surface := rfl
@[simp] theorem flipEffect_clip (s : State) (c : Clip) : (flipEffect s c).clip = c.regs := rfl
@[simp] theorem flipEffect_palIn (s : State) (c : Clip) : (flipEffect s c).palIn = s.palIn := rfl
@[simp] theorem flipEffect_pal (s : State) (c : Clip) : (flipEffect s c).pal = s.pal := rfl
@[simp] theorem flipEffect_luma (s : State) (c : Clip) : (flipEffect s c).luma = s.luma := rfl
@[simp] theorem flipEffect_triad (s : State) (c : Clip) : (flipEffect s c).triad = s.triad := rfl
@[simp] theorem flipEffect_src (s : State) (c : Clip) : (flipEffect s c).src = s.src := rfl
@[simp] theorem flipEffect_dst (s : State) (c : Clip) : (flipEffect s c).dst = flipDst s c := rfl
@[simp] theorem flipEffect_trace (s : State) (c : Clip) :
    (flipEffect s c).trace = s.trace ++ [presentEvent s c] := rfl
@[simp] theorem flipEffect_params (s : State) (c : Clip) : (flipEffect s c).params = s.params := rfl
@[simp] theorem flipEffect_host (s : State) (c : Clip) : (flipEffect s c).host = s.host := rfl
@[simp] theorem flipEffect_draws (s : State) (c : Clip) : (flipEffect s c).draws = s.draws := rfl

@[simp] theorem releaseTables_status (s : State) :
    (releaseTables s).status = { s.status with lutValid := false, preset := .full } := rfl
@[simp] theorem releaseTables_result (s : State) : (releaseTables s).result = s.result := rfl
@[simp] theorem releaseTables_fault (s : State) : (releaseTables s).fault = s.fault := rfl
@[simp] theorem releaseTables_operand (s : State) : (releaseTables s).operand = s.operand := rfl
@[simp] theorem releaseTables_surface (s : State) : (releaseTables s).surface = s.surface := rfl
@[simp] theorem releaseTables_clip (s : State) : (releaseTables s).clip = s.clip := rfl
@[simp] theorem releaseTables_palIn (s : State) : (releaseTables s).palIn = s.palIn := rfl
@[simp] theorem releaseTables_pal (s : State) : (releaseTables s).pal = s.pal := rfl
@[simp] theorem releaseTables_luma (s : State) : (releaseTables s).luma = .unspecified s.draws := rfl
@[simp] theorem releaseTables_triad (s : State) : (releaseTables s).triad = .unspecified s.draws := rfl
@[simp] theorem releaseTables_src (s : State) : (releaseTables s).src = s.src := rfl
@[simp] theorem releaseTables_dst (s : State) : (releaseTables s).dst = s.dst := rfl
@[simp] theorem releaseTables_trace (s : State) : (releaseTables s).trace = s.trace := rfl
@[simp] theorem releaseTables_params (s : State) : (releaseTables s).params = s.params := rfl
@[simp] theorem releaseTables_host (s : State) : (releaseTables s).host = s.host := rfl
@[simp] theorem releaseTables_draws (s : State) : (releaseTables s).draws = s.draws := rfl

@[simp] theorem releaseSurfaces_status (s : State) :
    (releaseSurfaces s).status = { s.status with active := false, filter := .direct } := rfl
@[simp] theorem releaseSurfaces_result (s : State) : (releaseSurfaces s).result = .ok := rfl
@[simp] theorem releaseSurfaces_fault (s : State) : (releaseSurfaces s).fault = s.fault := rfl
@[simp] theorem releaseSurfaces_operand (s : State) : (releaseSurfaces s).operand = s.operand := rfl
@[simp] theorem releaseSurfaces_surface (s : State) : (releaseSurfaces s).surface = ⟨0, 0, 0⟩ := rfl
@[simp] theorem releaseSurfaces_clip (s : State) : (releaseSurfaces s).clip = .zero := rfl
@[simp] theorem releaseSurfaces_palIn (s : State) : (releaseSurfaces s).palIn = s.palIn := rfl
@[simp] theorem releaseSurfaces_pal (s : State) : (releaseSurfaces s).pal = s.pal := rfl
@[simp] theorem releaseSurfaces_luma (s : State) : (releaseSurfaces s).luma = s.luma := rfl
@[simp] theorem releaseSurfaces_triad (s : State) : (releaseSurfaces s).triad = s.triad := rfl
@[simp] theorem releaseSurfaces_src (s : State) : (releaseSurfaces s).src = Memory.fresh s.draws := rfl
@[simp] theorem releaseSurfaces_dst (s : State) : (releaseSurfaces s).dst = Memory.fresh s.draws := rfl
@[simp] theorem releaseSurfaces_trace (s : State) : (releaseSurfaces s).trace = s.trace := rfl
@[simp] theorem releaseSurfaces_params (s : State) : (releaseSurfaces s).params = s.params := rfl
@[simp] theorem releaseSurfaces_host (s : State) : (releaseSurfaces s).host = s.host := rfl
@[simp] theorem releaseSurfaces_draws (s : State) : (releaseSurfaces s).draws = s.draws + 1 := rfl

@[simp] theorem hostReceives_status (s : State) (v : Word) : (hostReceives s v).status = s.status := rfl
@[simp] theorem hostReceives_result (s : State) (v : Word) : (hostReceives s v).result = s.result := rfl
@[simp] theorem hostReceives_fault (s : State) (v : Word) : (hostReceives s v).fault = s.fault := rfl
@[simp] theorem hostReceives_operand (s : State) (v : Word) : (hostReceives s v).operand = s.operand := rfl
@[simp] theorem hostReceives_surface (s : State) (v : Word) : (hostReceives s v).surface = s.surface := rfl
@[simp] theorem hostReceives_clip (s : State) (v : Word) : (hostReceives s v).clip = s.clip := rfl
@[simp] theorem hostReceives_palIn (s : State) (v : Word) : (hostReceives s v).palIn = s.palIn := rfl
@[simp] theorem hostReceives_pal (s : State) (v : Word) : (hostReceives s v).pal = s.pal := rfl
@[simp] theorem hostReceives_luma (s : State) (v : Word) : (hostReceives s v).luma = s.luma := rfl
@[simp] theorem hostReceives_triad (s : State) (v : Word) : (hostReceives s v).triad = s.triad := rfl
@[simp] theorem hostReceives_src (s : State) (v : Word) : (hostReceives s v).src = s.src := rfl
@[simp] theorem hostReceives_dst (s : State) (v : Word) : (hostReceives s v).dst = s.dst := rfl
@[simp] theorem hostReceives_trace (s : State) (v : Word) : (hostReceives s v).trace = s.trace := rfl
@[simp] theorem hostReceives_params (s : State) (v : Word) : (hostReceives s v).params = s.params := rfl
@[simp] theorem hostReceives_host (s : State) (v : Word) :
    (hostReceives s v).host = { s.host with reads := s.host.reads ++ [v] } := rfl
@[simp] theorem hostReceives_draws (s : State) (v : Word) : (hostReceives s v).draws = s.draws := rfl

@[simp] theorem advance_status (s : State) : (advance s).status = s.status := rfl
@[simp] theorem advance_result (s : State) : (advance s).result = s.result := rfl
@[simp] theorem advance_fault (s : State) : (advance s).fault = s.fault := rfl
@[simp] theorem advance_operand (s : State) : (advance s).operand = s.operand := rfl
@[simp] theorem advance_surface (s : State) : (advance s).surface = s.surface := rfl
@[simp] theorem advance_clip (s : State) : (advance s).clip = s.clip := rfl
@[simp] theorem advance_palIn (s : State) : (advance s).palIn = s.palIn := rfl
@[simp] theorem advance_pal (s : State) : (advance s).pal = s.pal := rfl
@[simp] theorem advance_luma (s : State) : (advance s).luma = s.luma := rfl
@[simp] theorem advance_triad (s : State) : (advance s).triad = s.triad := rfl
@[simp] theorem advance_src (s : State) : (advance s).src = s.src := rfl
@[simp] theorem advance_dst (s : State) : (advance s).dst = s.dst := rfl
@[simp] theorem advance_trace (s : State) : (advance s).trace = s.trace := rfl
@[simp] theorem advance_params (s : State) : (advance s).params = s.params := rfl
@[simp] theorem advance_host (s : State) : (advance s).host = { s.host with cp := s.host.cp + 1 } := rfl
@[simp] theorem advance_draws (s : State) : (advance s).draws = s.draws := rfl

@[simp] theorem platformReset_status (s : State) :
    (platformReset s).status = ⟨false, false, .full, .direct⟩ := rfl
@[simp] theorem platformReset_result (s : State) : (platformReset s).result = .ok := rfl
@[simp] theorem platformReset_fault (s : State) : (platformReset s).fault = ⟨false, false, false⟩ := rfl
@[simp] theorem platformReset_operand (s : State) : (platformReset s).operand = ⟨0, 0, 0, 0, 0⟩ := rfl
@[simp] theorem platformReset_surface (s : State) : (platformReset s).surface = ⟨0, 0, 0⟩ := rfl
@[simp] theorem platformReset_clip (s : State) : (platformReset s).clip = .zero := rfl
@[simp] theorem platformReset_palIn (s : State) : (platformReset s).palIn = Vector.replicate 32 0 := rfl
@[simp] theorem platformReset_pal (s : State) : (platformReset s).pal = Vector.replicate 32 0 := rfl
@[simp] theorem platformReset_luma (s : State) : (platformReset s).luma = .unspecified s.draws := rfl
@[simp] theorem platformReset_triad (s : State) : (platformReset s).triad = .unspecified s.draws := rfl
@[simp] theorem platformReset_src (s : State) : (platformReset s).src = Memory.fresh s.draws := rfl
@[simp] theorem platformReset_dst (s : State) : (platformReset s).dst = Memory.fresh s.draws := rfl
@[simp] theorem platformReset_trace (s : State) : (platformReset s).trace = [] := rfl
@[simp] theorem platformReset_params (s : State) : (platformReset s).params = s.params := rfl
@[simp] theorem platformReset_host (s : State) : (platformReset s).host = s.host := rfl
@[simp] theorem platformReset_draws (s : State) : (platformReset s).draws = s.draws + 1 := rfl

@[simp] theorem Memory.fresh_cells (n : Nat) : (Memory.fresh n).cells = [] := rfl
@[simp] theorem Memory.fresh_epoch (n : Nat) : (Memory.fresh n).epoch = n := rfl

/-! Building the tables changes STATUS, LUMA and TRIAD only. -/

@[simp] theorem buildTables_result (s : State) : (buildTables s).result = s.result := by
  unfold buildTables; split <;> rfl
@[simp] theorem buildTables_fault (s : State) : (buildTables s).fault = s.fault := by
  unfold buildTables; split <;> rfl
@[simp] theorem buildTables_operand (s : State) : (buildTables s).operand = s.operand := by
  unfold buildTables; split <;> rfl
@[simp] theorem buildTables_surface (s : State) : (buildTables s).surface = s.surface := by
  unfold buildTables; split <;> rfl
@[simp] theorem buildTables_clip (s : State) : (buildTables s).clip = s.clip := by
  unfold buildTables; split <;> rfl
@[simp] theorem buildTables_palIn (s : State) : (buildTables s).palIn = s.palIn := by
  unfold buildTables; split <;> rfl
@[simp] theorem buildTables_pal (s : State) : (buildTables s).pal = s.pal := by
  unfold buildTables; split <;> rfl
@[simp] theorem buildTables_src (s : State) : (buildTables s).src = s.src := by
  unfold buildTables; split <;> rfl
@[simp] theorem buildTables_dst (s : State) : (buildTables s).dst = s.dst := by
  unfold buildTables; split <;> rfl
@[simp] theorem buildTables_trace (s : State) : (buildTables s).trace = s.trace := by
  unfold buildTables; split <;> rfl
@[simp] theorem buildTables_params (s : State) : (buildTables s).params = s.params := by
  unfold buildTables; split <;> rfl
@[simp] theorem buildTables_host (s : State) : (buildTables s).host = s.host := by
  unfold buildTables; split <;> rfl
@[simp] theorem buildTables_draws (s : State) : (buildTables s).draws = s.draws := by
  unfold buildTables; split <;> rfl

theorem buildTables_of_invalid {s : State} (h : s.status.lutValid = false) :
    (buildTables s).status = { s.status with lutValid := true, preset := cfgPreset s.operand.cfg } ∧
    (buildTables s).luma = .built s.fmt ∧
    (buildTables s).triad = .built (presetRecord s.params (cfgPreset s.operand.cfg)) s.fmt := by
  unfold buildTables
  rw [if_neg (by simp [h])]
  exact ⟨rfl, rfl, by cases cfgPreset s.operand.cfg <;> rfl⟩

theorem buildTables_of_valid {s : State} (h : s.status.lutValid = true) : buildTables s = s := by
  unfold buildTables; rw [if_pos h]

/-! Derived views read only what they name. -/

@[simp] theorem faulted_setResult (s : State) (r : ResultCode) : (s.setResult r).faulted = s.faulted := rfl
@[simp] theorem faulted_advance (s : State) : (advance s).faulted = s.faulted := rfl
@[simp] theorem faulted_askCreateBuffer (f : Filter) (s : State) :
    (askCreateBuffer f s).faulted = s.faulted := rfl

/-- A raised fault latches the block (60_exceptions.md R284). -/
@[simp] theorem faulted_raiseFault (c : FaultCause) (s : State) : (raiseFault c s).faulted = true := by
  cases c <;> simp [State.faulted, raiseFault, FaultReg.set, FaultReg.any]

end Sys2Proof.Machine
end

