-- ==== Sys2Proof/Laws/Ops.lean ====
section
/-!
SUPPORT. What each shared operation can do, said once: a proof about a command or a step cites these
and unfolds no operation.
-/

namespace Sys2Proof.Machine

open Sys2Proof

/-! The gate every command passes (46_plugin_commands.md R240, 60_exceptions.md R289). -/

theorem lifecycleGate_faulted {act : Bool} {body : State → Result} {s : State} (h : s.faulted = true) :
    lifecycleGate act body s = .next (refuseFaulted s) := if_pos h

theorem lifecycleGate_wrong {act : Bool} {body : State → Result} {s : State} (h : s.faulted = false)
    (ha : s.status.active ≠ act) : lifecycleGate act body s = .next (raiseFault .lifecycle s) := by
  simp [lifecycleGate, h, ha]

theorem lifecycleGate_pass {act : Bool} {body : State → Result} {s : State} (h : s.faulted = false)
    (ha : s.status.active = act) : lifecycleGate act body s = body s := by
  simp [lifecycleGate, h, ha]

/-- Everything the gate can do. -/
theorem lifecycleGate_cases {act : Bool} {body : State → Result} {s : State} :
    (s.faulted = true ∧ lifecycleGate act body s = .next (refuseFaulted s)) ∨
    (s.faulted = false ∧ s.status.active ≠ act ∧
      lifecycleGate act body s = .next (raiseFault .lifecycle s)) ∨
    (s.faulted = false ∧ s.status.active = act ∧ lifecycleGate act body s = body s) := by
  cases h : s.faulted
  · by_cases ha : s.status.active = act
    · exact .inr (.inr ⟨rfl, ha, lifecycleGate_pass h ha⟩)
    · exact .inr (.inl ⟨rfl, ha, lifecycleGate_wrong h ha⟩)
  · exact .inl ⟨rfl, lifecycleGate_faulted h⟩

/-! INIT (46_plugin_commands.md R241). -/

/-- The ten INIT commands are one command over the filter. -/
theorem exec_initOf (f : Filter) (s : State) : exec (initOf f) s = initCommand f s := by
  cases f <;> rfl

theorem geometryUnsupported_iff (s : State) :
    geometryUnsupported s = true ↔
      s.operand.srcW.toNat = 0 ∨ s.params.maxW < s.operand.srcW.toNat ∨
      s.operand.srcH.toNat = 0 ∨ s.params.maxH < s.operand.srcH.toNat ∨
      s.operand.srcPitch.toNat % 2 = 1 ∨ s.operand.dstPitch.toNat % 2 = 1 := by
  simp [geometryUnsupported, or_assoc]

theorem pitchTooShort_iff (f : Filter) (s : State) :
    pitchTooShort f s = true ↔
      s.operand.srcPitch.toNat < 2 * s.operand.srcW.toNat ∨
      s.operand.dstPitch.toNat < 2 * s.operand.srcW.toNat * multiplier f := by
  simp [pitchTooShort]

theorem overCapacity_iff (f : Filter) (s : State) :
    overCapacity f s = true ↔
      s.params.srcMemBytes < s.operand.srcPitch.toNat * s.operand.srcH.toNat ∨
      s.params.dstMemBytes < s.operand.dstPitch.toNat * s.operand.srcH.toNat * multiplier f := by
  simp [overCapacity]

/-- Everything `Init(f)` can do, with the tests that lead there (60_exceptions.md R289). -/
theorem initBody_cases (f : Filter) (s : State) :
    (geometryUnsupported s = true ∧ initBody f s = failInit .eUnsupported s) ∨
    (geometryUnsupported s = false ∧ pitchTooShort f s = true ∧ initBody f s = raiseFault .pitch s) ∨
    (geometryUnsupported s = false ∧ pitchTooShort f s = false ∧ overCapacity f s = true ∧
      initBody f s = failInit .eAlloc s) ∨
    (geometryUnsupported s = false ∧ pitchTooShort f s = false ∧ overCapacity f s = false ∧
      ((backendReply s = .failAlloc ∧ initBody f s = failInit .eAlloc (askCreateBuffer f s)) ∨
       (backendReply s = .failUnsupported ∧
          initBody f s = failInit .eUnsupported (askCreateBuffer f s)) ∨
       (backendReply s = .ok ∧ initBody f s = initSuccess f (askCreateBuffer f s)))) := by
  unfold initBody
  cases hg : geometryUnsupported s
  · cases hp : pitchTooShort f s
    · cases ho : overCapacity f s
      · cases hr : backendReply s <;> simp
      · simp
    · simp
  · simp

/-! FLIP (46_plugin_commands.md R252). -/

/-- ResolveAxis outside the domain of 47_clip_resolver.md R271: empty rectangles (log 21). -/
theorem resolveAxis_of_lt {n m sz : Nat} (hn : 1 ≤ n) (h : sz < m) :
    resolveAxis n m sz = ⟨n / 2, 0, sz / 2, 0⟩ := by
  have hm : m ≤ n * m := Nat.le_mul_of_pos_left m hn
  have hcut : (n * m - sz + m - 1) / m = n := by
    rw [Nat.div_eq_iff (by omega)]
    constructor <;> omega
  simp [resolveAxis, show ¬ n * m ≤ sz by omega, hcut]

/-- A rectangle of pixels fits when it is empty or its last pixel lies inside the memory. -/
theorem rectFits_iff (pitch size x y w h : Nat) :
    rectFits pitch size x y w h = true ↔
      w = 0 ∨ h = 0 ∨ pixelAddr pitch (x + w - 1) (y + h - 1) + 2 ≤ size := by
  simp [rectFits, or_assoc]

theorem flipInRange_iff (s : State) (c : Clip) :
    flipInRange s c = true ↔
      rectFits s.operand.srcPitch.toNat s.params.srcMemBytes c.src.x c.src.y c.src.w c.src.h = true ∧
      rectFits s.operand.dstPitch.toNat s.params.dstMemBytes c.dst.x c.dst.y
        (imageWidth s c) (imageHeight s c) = true ∧
      multX s.surface.mult ≤ multiplier s.status.filter ∧
      multY s.surface.mult ≤ multiplier s.status.filter := by
  simp only [flipInRange, Bool.and_eq_true, decide_eq_true_eq, and_assoc]

/-- Everything FLIP does once the gate is passed. -/
theorem flipBody_cases (s : State) :
    (s.status.filter = .ctm644 ∧ s.status.lutValid = false ∧
      flipBody s = .next (raiseFault .lutUnbuilt s)) ∨
    (¬ (s.status.filter = .ctm644 ∧ s.status.lutValid = false) ∧ flipInRange s (flipClip s) = true ∧
      flipBody s = .next (flipEffect s (flipClip s))) ∨
    (flipInRange s (flipClip s) = false ∧ flipBody s = .fault .engineOutOfRange ∧
      ¬ (s.status.filter = .ctm644 ∧ s.status.lutValid = false)) := by
  unfold flipBody
  by_cases h : s.status.filter = .ctm644 ∧ s.status.lutValid = false
  · exact .inl ⟨h.1, h.2, if_pos h⟩
  · rw [if_neg h]
    cases hr : flipInRange s (flipClip s)
    · exact .inr (.inr ⟨rfl, by simp, h⟩)
    · exact .inr (.inl ⟨h, rfl, by simp⟩)

/-- The effect of a FLIP leaves SRC as it reads. -/
@[simp] theorem flipEffect_srcByte (s : State) (c : Clip) (a : Nat) :
    (flipEffect s c).srcByte a = s.srcByte a := rfl

/-- What DST reads as after a FLIP is decided by what the image wrote (46_plugin_commands.md R252). -/
theorem flipEffect_dstByte (s : State) (c : Clip) (a : Nat) :
    (flipEffect s c).dstByte a = ((flipDst s c).byte? a).getD (Config.dstByte s.dst.epoch a) := by
  simp [State.dstByte, flipDst, storeImage_epoch]

/-! The other commands. -/

/-- Every next state a command can reach. -/
theorem exec_next {i : Instr} {s t : State} (h : exec i s = .next t) :
    (s.faulted = true ∧ t = refuseFaulted s) ∨
    (s.faulted = false ∧ t = raiseFault .lifecycle s) ∨
    (s.faulted = false ∧ s.status.active = false ∧ ∃ f, i = initOf f ∧ t = initBody f s) ∨
    (s.faulted = false ∧ s.status.active = true ∧ i = .setPal ∧ t = setPalBody s) ∨
    (s.faulted = false ∧ s.status.active = true ∧ i = .flip ∧ flipBody s = .next t) ∨
    (s.faulted = false ∧ s.status.active = true ∧ i = .close ∧ t = closeBody s) := by
  have init : ∀ f, i = initOf f → initCommand f s = .next t →
      (s.faulted = true ∧ t = refuseFaulted s) ∨ (s.faulted = false ∧ t = raiseFault .lifecycle s) ∨
      (s.faulted = false ∧ s.status.active = false ∧ ∃ f, i = initOf f ∧ t = initBody f s) := by
    intro f hi hf
    rcases lifecycleGate_cases (act := false) (body := fun t => .next (initBody f t)) (s := s) with
      ⟨hq, e⟩ | ⟨hq, _, e⟩ | ⟨hq, ha, e⟩
    · exact .inl ⟨hq, (Host.Outcome.next.inj (e.symm.trans hf)).symm⟩
    · exact .inr (.inl ⟨hq, (Host.Outcome.next.inj (e.symm.trans hf)).symm⟩)
    · exact .inr (.inr ⟨hq, ha, f, hi, (Host.Outcome.next.inj (e.symm.trans hf)).symm⟩)
  have rest : ∀ (body : State → Result), lifecycleGate true body s = .next t →
      (s.faulted = true ∧ t = refuseFaulted s) ∨ (s.faulted = false ∧ t = raiseFault .lifecycle s) ∨
      (s.faulted = false ∧ s.status.active = true ∧ body s = .next t) := by
    intro body hf
    rcases lifecycleGate_cases (act := true) (body := body) (s := s) with
      ⟨hq, e⟩ | ⟨hq, _, e⟩ | ⟨hq, ha, e⟩
    · exact .inl ⟨hq, (Host.Outcome.next.inj (e.symm.trans hf)).symm⟩
    · exact .inr (.inl ⟨hq, (Host.Outcome.next.inj (e.symm.trans hf)).symm⟩)
    · exact .inr (.inr ⟨hq, ha, e.symm.trans hf⟩)
  have ofInit : ∀ f, i = initOf f → initCommand f s = .next t → _ := fun f hi hf =>
    (init f hi hf).imp_right fun h => h.imp_right (Or.inl (b :=
      (s.faulted = false ∧ s.status.active = true ∧ i = .setPal ∧ t = setPalBody s) ∨
      (s.faulted = false ∧ s.status.active = true ∧ i = .flip ∧ flipBody s = .next t) ∨
      (s.faulted = false ∧ s.status.active = true ∧ i = .close ∧ t = closeBody s)))
  cases i with
  | initDirect => exact ofInit .direct rfl h
  | initSuperEagle => exact ofInit .superEagle rfl h
  | initScale2x => exact ofInit .scale2x rfl h
  | initAScale2x => exact ofInit .advScale2x rfl h
  | initTv2x => exact ofInit .tv2x rfl h
  | initBilinear => exact ofInit .bilinear rfl h
  | initBicubic => exact ofInit .bicubic rfl h
  | initDotMatrix => exact ofInit .dotMatrix rfl h
  | initMonitor2x => exact ofInit .monitor2x rfl h
  | initCtm644 => exact ofInit .ctm644 rfl h
  | setPal =>
    rcases rest (fun t => .next (setPalBody t)) h with h | h | ⟨a, b, c⟩
    · exact .inl h
    · exact .inr (.inl h)
    · exact .inr (.inr (.inr (.inl ⟨a, b, rfl, (Host.Outcome.next.inj c).symm⟩)))
  | flip =>
    rcases rest flipBody h with h | h | ⟨a, b, c⟩
    · exact .inl h
    · exact .inr (.inl h)
    · exact .inr (.inr (.inr (.inr (.inl ⟨a, b, rfl, c⟩))))
  | close =>
    rcases rest (fun t => .next (closeBody t)) h with h | h | ⟨a, b, c⟩
    · exact .inl h
    · exact .inr (.inl h)
    · exact .inr (.inr (.inr (.inr (.inr ⟨a, b, rfl, (Host.Outcome.next.inj c).symm⟩))))

/-! Host accesses (20_memory.md R60 to R65). -/

/-- A host read that answers changes only what the host has received. -/
theorem hostRead_next {s t : State} {sp : Space} {w : AccessWidth} {a : Nat}
    (h : hostRead s sp w a = .next t) :
    t = hostReceives s (spaceRead s sp w a) ∧ a + accessBytes w ≤ spaceBytes s sp := by
  unfold hostRead at h
  split at h
  · cases h
  · split at h
    · cases h
    · split at h
      · next hr => exact ⟨by simpa using h.symm, hr⟩
      · cases h

/-- A host write that answers changes only SRC, of an active plugin and in range. -/
theorem hostWrite_next {s t : State} {n a : Nat} {store : Memory → Memory}
    (h : hostWrite s n a store = .next t) :
    t = { s with src := store s.src } ∧ s.status.active = true ∧ a % n = 0 ∧
      a + n ≤ s.params.srcMemBytes := by
  unfold hostWrite at h
  split at h
  · cases h
  · next h0 =>
    split at h
    · cases h
    · next h1 =>
      split at h
      · next h2 => exact ⟨by simpa using h.symm, by simpa using h1, by omega, h2⟩
      · cases h

/-- What a write of an operand register can do (10_state.md R42). -/
theorem writeOperand_cases (s : State) (o : OperandRegs) :
    (s.status.active = true ∧ writeOperand s o = s) ∨
    (s.status.active = false ∧ writeOperand s o = { s with operand := o }) := by
  unfold writeOperand
  cases h : s.status.active <;> simp

/-- Everything a register write can do (10_state.md R21, R42, R43). -/
theorem offsetWrite_cases (s : State) (off : Nat) (v : Word) :
    offsetWrite s off v = s ∨
    (s.status.active = false ∧ ∃ o, (o.cfg = s.operand.cfg ∨ o.cfg = v &&& cfgMask) ∧
      offsetWrite s off v = { s with operand := o }) ∨
    (∃ i : Fin 32, offsetWrite s off v = { s with palIn := s.palIn.set i (paletteEntry v) }) := by
  unfold offsetWrite
  cases hr : Reg.ofOffset off with
  | none => exact .inl rfl
  | some r =>
    have op : ∀ o : OperandRegs, (o.cfg = s.operand.cfg ∨ o.cfg = v &&& cfgMask) →
        writeOperand s o = s ∨ (s.status.active = false ∧
          ∃ o', (o'.cfg = s.operand.cfg ∨ o'.cfg = v &&& cfgMask) ∧
            writeOperand s o = { s with operand := o' }) ∨
        (∃ i : Fin 32, writeOperand s o = { s with palIn := s.palIn.set i (paletteEntry v) }) := by
      intro o ho
      rcases writeOperand_cases s o with ⟨_, e⟩ | ⟨ha, e⟩
      · exact .inl e
      · exact .inr (.inl ⟨ha, o, ho, e⟩)
    cases r with
    | cfg => exact op { s.operand with cfg := v &&& cfgMask } (.inr rfl)
    | srcW => exact op { s.operand with srcW := v } (.inl rfl)
    | srcH => exact op { s.operand with srcH := v } (.inl rfl)
    | srcPitch => exact op { s.operand with srcPitch := v } (.inl rfl)
    | dstPitch => exact op { s.operand with dstPitch := v } (.inl rfl)
    | palIn i => exact .inr (.inr ⟨i, rfl⟩)
    | _ => exact .inl rfl

/-- Everything a host action other than a command can do. -/
theorem hostAction_next {a : HostAction} {s t : State} (h : hostAction a s = .next t) :
    (∃ off v, a = .wr off v ∧ t = offsetWrite s off v) ∨
    (∃ v, t = hostReceives s v) ∨
    (∃ b v, s.status.active = true ∧ b < s.params.srcMemBytes ∧
      t = { s with src := s.src.write8 b v }) ∨
    (∃ b v, s.status.active = true ∧ b + 2 ≤ s.params.srcMemBytes ∧
      t = { s with src := s.src.write16 b v }) ∨
    (∃ ans, a = .backend ans ∧ t = { s with host := { s.host with answer := some ans } }) ∨
    (a = .reset ∧ t = platformReset s) := by
  cases a with
  | wr off v =>
    simp only [hostAction] at h
    split at h
    · exact .inl ⟨off, v, rfl, by simpa using h.symm⟩
    · cases h
  | rd off =>
    simp only [hostAction] at h
    split at h
    · exact .inr (.inl ⟨_, by simpa using h.symm⟩)
    · cases h
  | ws x y v =>
    obtain ⟨e, ha, _, hr⟩ := hostWrite_next (n := 2) (store := fun m => m.write16 _ v) h
    exact .inr (.inr (.inr (.inl ⟨_, v, ha, hr, e⟩)))
  | rs x y => exact .inr (.inl ⟨_, (hostRead_next h).1⟩)
  | rdst x y => exact .inr (.inl ⟨_, (hostRead_next h).1⟩)
  | srcWrite8 b v =>
    obtain ⟨e, ha, _, hr⟩ := hostWrite_next (n := 1) (store := fun m => m.write8 b v) h
    exact .inr (.inr (.inl ⟨b, v, ha, hr, e⟩))
  | srcWrite16 b v =>
    obtain ⟨e, ha, _, hr⟩ := hostWrite_next (n := 2) (store := fun m => m.write16 b v) h
    exact .inr (.inr (.inr (.inl ⟨b, v, ha, hr, e⟩)))
  | read sp w b => exact .inr (.inl ⟨_, (hostRead_next h).1⟩)
  | backend ans => exact .inr (.inr (.inr (.inr (.inl ⟨ans, rfl, by simpa [hostAction] using h.symm⟩))))
  | reset => exact .inr (.inr (.inr (.inr (.inr ⟨rfl, by simpa [hostAction] using h.symm⟩))))

/-! One step. -/

/-- The command a host action submits is a write at the offset of CMD. -/
theorem commandWord_some {a : HostAction} {c : Word} : commandWord a = some c ↔ a = .wr 0 c := by
  cases a with
  | wr off v =>
    by_cases h : off = 0 <;> simp [commandWord, Reg.offset, h]
  | _ => simp [commandWord]

theorem afterAction_next {r : Result} {t : State} (h : afterAction r = .next t) :
    ∃ u, r = .next u ∧ t = advance u := by
  cases r with
  | next u => exact ⟨u, rfl, by simpa [afterAction] using h.symm⟩
  | fault _ => cases h
  | refused _ => cases h

/-- Everything a step that answers a next state did: one command, or one other host action, and `cp`
advanced by 1 (10_state.md R40). -/
theorem step_next {s t : State} (h : step s = .next t) :
    ∃ a u, fetchAction s = some a ∧ t = advance u ∧
      ((∃ c, a = .wr 0 c ∧ execWord c s = .next u) ∨ (commandWord a = none ∧ hostAction a s = .next u)) := by
  unfold step at h
  cases hf : fetchAction s with
  | none => rw [hf] at h; cases h
  | some a =>
    rw [hf] at h
    simp only at h
    cases hc : commandWord a with
    | some c =>
      rw [hc] at h
      obtain ⟨u, hu, ht⟩ := afterAction_next h
      exact ⟨a, u, rfl, ht, .inl ⟨c, commandWord_some.1 hc, hu⟩⟩
    | none =>
      rw [hc] at h
      obtain ⟨u, hu, ht⟩ := afterAction_next h
      exact ⟨a, u, rfl, ht, .inr ⟨hc, hu⟩⟩

/-- What a command word does: its command, or the answer to an illegal word. -/
theorem execWord_next {c : Word} {s t : State} (h : execWord c s = .next t) :
    (∃ i, decode c = .ok i ∧ exec i s = .next t) ∨
    (s.faulted = true ∧ t = refuseFaulted s) ∨
    (s.faulted = false ∧ t = s.setResult .eIllegalCmd) := by
  unfold execWord at h
  cases hd : decode c with
  | ok i => rw [hd] at h; exact .inl ⟨i, rfl, h⟩
  | error e =>
    rw [hd] at h
    simp only [Host.Outcome.next.injEq] at h
    cases hq : s.faulted
    · exact .inr (.inr ⟨rfl, by simp [← h, illegalCommand, hq]⟩)
    · exact .inr (.inl ⟨rfl, by simp [← h, illegalCommand, hq]⟩)

end Sys2Proof.Machine
end

