-- ==== Sys2Proof/Laws/PerInstr.lean ====
section
/-!
SUPPORT. Statements made per instruction: the fields of the encoding.
-/

namespace Sys2Proof.Laws.EncodedFields

open Sys2Proof

/-- The fields of a command word (30_encoding.md rules R90, R92, R93): ZERO is 0, OP is 1 to 4, and ARG
is a filter identifier for INIT (OP 1) and 0 for the others. -/
def Statement (i : Instr) : Prop :=
  zeroField (encode i) = 0 ∧ 1 ≤ opField (encode i) ∧ opField (encode i) ≤ 4 ∧
  argField (encode i) ≤ (if opField (encode i) = 1 then 9 else 0)

theorem initDirect : Statement .initDirect := by unfold Statement; decide

theorem initSuperEagle : Statement .initSuperEagle := by unfold Statement; decide

theorem initScale2x : Statement .initScale2x := by unfold Statement; decide

theorem initAScale2x : Statement .initAScale2x := by unfold Statement; decide

theorem initTv2x : Statement .initTv2x := by unfold Statement; decide

theorem initBilinear : Statement .initBilinear := by unfold Statement; decide

theorem initBicubic : Statement .initBicubic := by unfold Statement; decide

theorem initDotMatrix : Statement .initDotMatrix := by unfold Statement; decide

theorem initMonitor2x : Statement .initMonitor2x := by unfold Statement; decide

theorem initCtm644 : Statement .initCtm644 := by unfold Statement; decide

theorem setPal : Statement .setPal := by unfold Statement; decide

theorem flip : Statement .flip := by unfold Statement; decide

theorem close : Statement .close := by unfold Statement; decide

end Sys2Proof.Laws.EncodedFields
end

