-- ==== Sys2Proof/Tests/Slice0.lean ====
section
/-!
SUPPORT. Tests: command words written out from 30_encoding.md rule R93, ill-formed terms that the
checks refuse, single steps and vectors of 95_test_vectors.md, and a state that meets the hypotheses
of every obligation that has any (`witness_<Name>`).
-/

namespace Sys2Proof.Tests

open Sys2Proof Sys2Proof.Machine

/-! ## Words (30_encoding.md R90, R93, R94; the bits are ZERO, ARG, OP) -/

theorem test_decode_init_direct :
    decodeTableWord 32 0b0000000000000000_00000000_00000001 = some .initDirect := by decide
theorem test_decode_init_supereagle :
    decodeTableWord 32 0b0000000000000000_00000001_00000001 = some .initSuperEagle := by decide
theorem test_decode_init_scale2x :
    decodeTableWord 32 0b0000000000000000_00000010_00000001 = some .initScale2x := by decide
theorem test_decode_init_ascale2x :
    decodeTableWord 32 0b0000000000000000_00000011_00000001 = some .initAScale2x := by decide
theorem test_decode_init_tv2x :
    decodeTableWord 32 0b0000000000000000_00000100_00000001 = some .initTv2x := by decide
theorem test_decode_init_bilinear :
    decodeTableWord 32 0b0000000000000000_00000101_00000001 = some .initBilinear := by decide
theorem test_decode_init_bicubic :
    decodeTableWord 32 0b0000000000000000_00000110_00000001 = some .initBicubic := by decide
theorem test_decode_init_dotmatrix :
    decodeTableWord 32 0b0000000000000000_00000111_00000001 = some .initDotMatrix := by decide
theorem test_decode_init_monitor2x :
    decodeTableWord 32 0b0000000000000000_00001000_00000001 = some .initMonitor2x := by decide
theorem test_decode_init_ctm644 :
    decodeTableWord 32 0b0000000000000000_00001001_00000001 = some .initCtm644 := by decide
theorem test_decode_setpal :
    decodeTableWord 32 0b0000000000000000_00000000_00000010 = some .setPal := by decide
theorem test_decode_flip :
    decodeTableWord 32 0b0000000000000000_00000000_00000011 = some .flip := by decide
theorem test_decode_close :
    decodeTableWord 32 0b0000000000000000_00000000_00000100 = some .close := by decide

/-- Illegal words (30_encoding.md R94): each of its four cases, at its first value. -/
theorem test_decode_illegal :
    decode 0x00000000 = .error .unknownOp ∧ decode 0x00000005 = .error .unknownOp ∧
    decode 0x00000A01 = .error .unknownFilter ∧ decode 0x00000102 = .error .argNotZero ∧
    decode 0x00000103 = .error .argNotZero ∧ decode 0x00000104 = .error .argNotZero ∧
    decode 0x00010001 = .error .zeroField ∧ decode 0x80000003 = .error .zeroField := by decide

/-! ## Well-formedness: an ill-formed term for each check -/

theorem test_illformed_wr : (HostAction.wr 0x011 0).wellFormed = false := by decide
theorem test_illformed_rd : (HostAction.rd 0x006).wellFormed = false := by decide
theorem test_illformed_srcWrite16 : (HostAction.srcWrite16 3 0).wellFormed = false := by decide
theorem test_illformed_readHalf : (HostAction.read .dst .half 1).wellFormed = false := by decide
theorem test_illformed_lumaHalf : (HostAction.read .lumaMem .half 0).wellFormed = false := by decide
theorem test_wellformed_actions :
    (HostAction.wr 0x010 0).wellFormed = true ∧ (HostAction.read .triadMem .half 2).wellFormed = true ∧
    (HostAction.read .triadMem .byte 3).wellFormed = true := by decide

/-! ## Parameters and states of the tests -/

/-- The record E-TP1 of 95_test_vectors.md part 2. -/
def record : TriadParams := ⟨3 / 4, 1, 1 / 4, 4, 1 / 16, 5 / 4, 2, 9 / 8, 5 / 4, 8, 9 / 8⟩

/-- The pairs (k, 1), (k, 0) in rising k, as E-PAT-H lists them. -/
def patRow (p q : Phase) : Vector (Channel × Phase) 6 :=
  #v[(.red, p), (.green, p), (.blue, p), (.red, q), (.green, q), (.blue, q)]

/-- Small parameters: E-DOT, E-MARGIN, E-TP1, E-PAT-H of 95_test_vectors.md part 2; E-PAT-H twice over
for PAT_FULL. -/
def params : Params where
  maxW := 4
  maxH := 4
  srcMemBytes := 64
  dstMemBytes := 256
  presetFull := record
  presetHalf := record
  lumaMargin := 16
  patHalf := #v[patRow .bright .dim, patRow .bright .dim, patRow .dim .bright, patRow .dim .bright]
  patFull := #v[patRow .bright .dim ++ patRow .bright .dim, patRow .bright .dim ++ patRow .bright .dim,
    patRow .dim .bright ++ patRow .dim .bright, patRow .dim .bright ++ patRow .dim .bright]
  dotTable := #v[0x01E0, 0x0007, 0x3800, 0x0000, 0x39E7, 0x0000, 0x39E7, 0x0000,
    0x3800, 0x0000, 0x01E0, 0x0007, 0x39E7, 0x0000, 0x39E7, 0x0000]
  dotShift := 2
  hidden := #v[false, true, false, false, false, false, false, false, false, false]

theorem test_params_wellformed : params.wellFormed = true := by decide +kernel
theorem test_illformed_params : { params with maxW := 0 }.wellFormed = false := by decide +kernel
theorem test_illformed_record :
    { record with tint := 5 / 4 }.wellFormed = false ∧ { record with gamma := 0 }.wellFormed = false ∧
    { record with blackFloor := 256 }.wellFormed = false := by decide +kernel

/-- An inactive block with these operands and this host program. -/
def idle (o : OperandRegs) (p : List HostAction) : State :=
  { State.reset with params := params, operand := o, host := ⟨p, 0, none, some .ok, []⟩ }

/-- Operands of a 2 by 2 source, good for every filter. -/
def operands : OperandRegs := ⟨0, 2, 2, 4, 16⟩

/-- A block with filter `f` active on these operands. -/
def running (f : Filter) (o : OperandRegs) (p : List HostAction) : State :=
  { idle o p with
    status := ⟨true, f == .ctm644, .full, f⟩
    surface := ⟨o.srcW * BitVec.ofNat 32 (multiplier f), o.srcH * BitVec.ofNat 32 (multiplier f),
      multWord f⟩
    luma := if f = .ctm644 then .built .rgb565 else .unspecified 0
    triad := if f = .ctm644 then .built record .rgb565 else .unspecified 0 }

/-- A block with one fault bit set. -/
def faultedBy (c : FaultCause) (p : List HostAction) : State := raiseFault c (idle operands p)

/-- The next state of an outcome, if there is one. -/
def nextOf : Result → Option State
  | .next s => some s
  | .fault _ => none
  | .refused _ => none

/-- The next state of a command. -/
def after (i : Instr) (s : State) : Option State := nextOf (exec i s)

/-! ## One step of each command -/

/-- INIT sets STATUS, RESULT, MULT and SURF (46_plugin_commands.md R249; 95_test_vectors.md S1):
`(STATUS, RESULT, SURF_W, SURF_H, MULT)`. -/
def initView (i : Instr) : Option (Word × Word × Word × Word × Word) :=
  (after i (idle operands [])).map fun t =>
    (t.statusWord, t.result.word, t.surface.surfW, t.surface.surfH, t.surface.mult)

theorem test_init_direct : initView .initDirect = some (0x001, 0, 2, 2, 0x0101) := by decide
theorem test_init_supereagle : initView .initSuperEagle = some (0x101, 0, 4, 4, 0x0202) := by decide
theorem test_init_scale2x : initView .initScale2x = some (0x201, 0, 4, 4, 0x0202) := by decide
theorem test_init_ascale2x : initView .initAScale2x = some (0x301, 0, 4, 4, 0x0202) := by decide
theorem test_init_tv2x : initView .initTv2x = some (0x401, 0, 4, 4, 0x0202) := by decide
theorem test_init_bilinear : initView .initBilinear = some (0x501, 0, 4, 4, 0x0202) := by decide
theorem test_init_bicubic : initView .initBicubic = some (0x601, 0, 4, 4, 0x0202) := by decide
theorem test_init_dotmatrix : initView .initDotMatrix = some (0x701, 0, 4, 4, 0x0202) := by decide
theorem test_init_monitor2x : initView .initMonitor2x = some (0x801, 0, 4, 4, 0x0202) := by decide
theorem test_init_ctm644 : initView .initCtm644 = some (0x903, 0, 8, 8, 0x0404) := by decide

/-- SETPAL drops the top byte (46_plugin_commands.md R253; 95_test_vectors.md P3). -/
theorem test_setpal :
    (after .setPal { running .direct operands [] with
      palIn := (Vector.replicate 32 0).set 3 0xFF123456 }).map (fun t => (t.pal[3], t.pal[4]))
      = some (0x00123456, 0) := by decide +kernel

/-- FLIP of TV 2x on the 1 by 1 source `ABCD` (95_test_vectors.md V-TV-2), low byte first. -/
theorem test_flip_tv2x :
    (after .flip { running .tv2x ⟨0, 1, 1, 2, 6⟩ [] with src := ⟨[(0, 0xCD), (1, 0xAB)], 0⟩ }).map
      (fun t => t.dst.cells) =
      some [(0, 0xCD), (1, 0xAB), (2, 0xCD), (3, 0xAB),
        (6, 0x4B), (7, 0x93), (8, 0x4B), (9, 0x93)] := by decide

/-- FLIP records the full frame (47_clip_resolver.md R273) and one Present. -/
theorem test_flip_clip :
    (after .flip { running .tv2x ⟨4, 1, 1, 2, 6⟩ [] with src := ⟨[(0, 0xCD), (1, 0xAB)], 0⟩ }).map
      (fun t => (t.clip, t.trace)) =
      some (⟨0, 0, 1, 1, 0, 0, 2, 2⟩, [.present 2 2 6 ⟨0, 0, 2, 2⟩ true]) := by decide

/-- CLOSE (46_plugin_commands.md R263). -/
theorem test_close :
    (after .close (running .ctm644 operands [])).map
      (fun t => (t.statusWord, t.result.word, t.surface)) = some (0, 0, ⟨0, 0, 0⟩) := by decide

/-- FLIP as the first command after reset: the lifecycle fault (60_exceptions.md R281; 95_test_vectors.md
P4): `(STATUS, RESULT, FAULT)`. -/
theorem test_flip_after_reset :
    (nextOf (step (State.reset.withFetchWord 32 3))).map
      (fun t => (t.statusWord, t.result.word, t.fault.word)) = some (4, 4, 1) := by decide

/-! ## Vectors of 95_test_vectors.md -/

/-- The window of a list of rows. -/
def window (rows : List (List Pixel)) : Window where
  w := (rows.headD []).length
  h := rows.length
  px := fun x y => (rows.getD y []).getD x 0

/-- Row `Y` of a transform's image, from column 0, `n` pixels. -/
def row (f : Nat → Nat → Pixel) (n Y : Nat) : List Pixel := (List.range n).map fun X => f X Y

/-- The source `Q` of part 3.2. -/
def q : Window := window [[0x0000, 0xFFFF], [0xF800, 0x001F]]

/-- V-CM-2, V-CM-6, V-CM-7, V-CM-10. -/
theorem test_averages :
    average2 .rgb565 0x1234 0x5678 = 0x3456 ∧ average2 .rgb555 0xFFFF 0x8000 = 0x3DEF ∧
    average2 .rgb555 0x9234 0x9234 = 0x9234 ∧
    average4 .rgb565 0x1234 0x5678 0x9ABC 0xDEF0 = 0x7496 := by decide

/-- V-CM-16, V-CM-17, V-CM-23. -/
theorem test_brightness_and_blend :
    scaleBrightness .rgb565 0x8410 9 8 = 0x9492 ∧ scaleBrightness .rgb555 0x9234 7 8 = 0x0DD1 ∧
    blend35 .rgb565 0x1234 0x8410 = 0x5351 := by decide

/-- V-BIL-2. -/
theorem test_bilinear : row (xformBilinear .rgb565 q) 4 1 = [0x7800, 0x79EF, 0x7BFF, 0xBDFF] := by
  decide

/-- V-MON-1. -/
theorem test_monitor2x : row (xformMonitor2x .rgb565 q) 4 1 = [0x4000, 0x4108, 0x422F, 0x634F] := by
  decide

/-- V-DOT-2. -/
theorem test_dotmatrix : row (xformDotMatrix params q) 4 0 = [0x0000, 0x0000, 0xC7FF, 0xFFFF] := by
  decide

/-- V-SE-3. -/
theorem test_supereagle : row (xformSuperEagle .rgb565 q) 4 0 = [0x38E3, 0xBDFB, 0xFFFF, 0xFFFF] := by
  decide

/-- V-AS-3. -/
theorem test_ascale2x : row (xformAdvScale2x .rgb565 q) 4 1 = [0x7800, 0x79EF, 0x7BFF, 0xFFFF] := by
  decide

/-- V-S2X-3: row 1 of the triangle. -/
theorem test_scale2x :
    row (xformScale2x (window [[0, 0, 0xFFFF], [0, 0xFFFF, 0xFFFF], [0xFFFF, 0xFFFF, 0xFFFF]])) 6 1
      = [0, 0, 0, 0xFFFF, 0xFFFF, 0xFFFF] := by decide

/-- V-BIC-2. -/
theorem test_bicubic : row (xformBicubic .rgb565 q) 4 0 = [0x38E4, 0x628C, 0xC5FB, 0xE73E] := by
  decide

/-- V-LUMA and V-GAM. -/
theorem test_luma_gamma :
    lumaEntry .rgb565 0x8410 = 130 ∧ lumaEntry .rgb555 0x9234 = 119 ∧ gammaFn (5 / 4) 146 = 163 := by
  decide +kernel

/-- V-TRI: entry `0x1234` under E-TP1. -/
theorem test_triad : triadEntry record .rgb565 .red .dim 0x1234 = 0x28C5 := by decide +kernel

/-- V-CTM-1 (half-resolution, E-PAT-H): two pixels of row 0. -/
theorem test_ctm644 :
    row (xformCtm644 params .rgb565 .half (.built .rgb565) (.built record .rgb565)
      (window [[0x0000, 0xFFFF]])) 2 0 = [0x78E3, 0x1BE3] := by decide +kernel

/-- V-CLIP. -/
theorem test_resolve_axis :
    resolveAxis 4 2 11 = ⟨0, 4, 1, 8⟩ ∧ resolveAxis 5 2 6 = ⟨1, 3, 0, 6⟩ ∧
    resolveAxis 4 4 9 = ⟨1, 2, 0, 8⟩ := by decide

/-! ## Witnesses: states and operands that meet the hypotheses of the obligations -/

/-- The state with FLIP as its next action. -/
def flipNext : State := running .direct operands [lineCommand .flip]

theorem witness_DecodeIffEncode :
    Instr.wellFormed .close = true ∧ decode 0x00000004 = .ok .close ∧ encode .close = 0x00000004 := by
  decide

theorem witness_RegisterMap :
    Reg.ofOffset 0x050 = none ∧ Reg.ofOffset 0x07C = none ∧ Reg.ofOffset 0x1A8 = none ∧
    Reg.ofOffset 0x04C = some .clipDstH ∧ Reg.ofOffset 0x080 = some (.palIn 0) ∧
    Reg.ofOffset 0x1A4 = some (.desc .ctm644) := by decide

theorem witness_StepRunsCommand :
    fetchAction flipNext = some (.wr 0 0x00000003) ∧ decode 0x00000003 = .ok .flip ∧
    Instr.wellFormed .flip = true := by decide

theorem witness_StepIllegalWord :
    fetchAction (idle operands [.wr 0 0xA01]) = some (.wr 0 0xA01) ∧
    decode 0xA01 = .error .unknownFilter ∧ (idle operands [.wr 0 0xA01]).faulted = false ∧
    fetchAction (faultedBy .pitch [.wr 0 0xA01]) = some (.wr 0 0xA01) ∧
    (faultedBy .pitch [.wr 0 0xA01]).faulted = true := by decide

theorem witness_StepFollowsIndex :
    State.reset.host.cp = State.reset.host.program.length ∧
    (idle operands [.rd 4]).host.program[(idle operands [.rd 4]).host.cp]? = some (.rd 4) ∧
    commandWord (.rd 4) = none := by decide

theorem witness_StepAdvancesByOne :
    (nextOf (step flipNext)).map (fun t => t.host.cp) = some 1 := by decide

/-- A palette of zeros has no top byte. -/
theorem zero_palette (i : Fin 32) : (Vector.replicate 32 (0 : Word))[i] &&& ~~~paletteMask = 0 := by
  simp

/-- The invariant holds of every block of `running` over `operands`. -/
theorem running_inv (f : Filter) (p : List HostAction) : Inv (running f operands p) where
  srcWf := .nil
  dstWf := .nil
  srcIn := by intro c hc; cases hc
  dstIn := by intro c hc; cases hc
  cfg := show (0 : Word) &&& ~~~cfgMask = 0 by decide
  palIn := zero_palette
  pal := zero_palette
  oneFault := show 0 ≤ 1 by decide
  inactive := by intro h; cases h
  latched := fun _ =>
    { mult := rfl
      surfW := by cases f <;> rfl
      surfHLe := Nat.le_of_eq (by cases f <;> rfl)
      surfH := fun _ => by cases f <;> rfl
      width := show 1 ≤ 2 ∧ 2 ≤ 4 by decide
      height := show 1 ≤ 2 ∧ 2 ≤ 4 by decide
      even := show 4 % 2 = 0 ∧ 16 % 2 = 0 by decide
      srcPitch := show 2 * 2 ≤ 4 by decide
      dstPitch := show 2 * 2 * multiplier f ≤ 16 by cases f <;> decide
      srcFits := show 4 * 2 ≤ 64 by decide
      dstFits := show 16 * 2 * multiplier f ≤ 256 by cases f <;> decide
      clip := .inl rfl }
  lutValid := show (f == .ctm644) = true ↔ true = true ∧ f = .ctm644 by simp
  tables := by
    intro h
    have hf : f = .ctm644 := by simpa [running] using h
    subst hf
    exact ⟨show Preset.full = cfgPreset 0 by decide, by simp [running, idle, State.fmt, cfgFmt, operands],
      by simp [running, idle, presetRecord, params, State.fmt, cfgFmt, operands]⟩
  preset := fun _ => rfl
  cp := Nat.zero_le _

theorem witness_StepKeepsInv :
    Inv (running .ctm644 operands [lineCommand .setPal]) ∧
    ∃ t, step (running .ctm644 operands [lineCommand .setPal]) = .next t :=
  ⟨running_inv _ _, _, rfl⟩

theorem witness_FaultedBlockRefuses :
    (faultedBy .lifecycle [.wr 0 3]).faulted = true ∧
    fetchAction (faultedBy .lifecycle [.wr 0 3]) = some (.wr 0 3) := by decide

theorem witness_FaultBitsSticky : ∀ c ∈ [FaultCause.lifecycle, .pitch, .lutUnbuilt],
    fetchAction (faultedBy c [.wr 0 3]) ≠ some .reset ∧
    (nextOf (step (faultedBy c [.wr 0 3]))).isSome = true ∧
    (faultedBy c [.wr 0 3]).fault = (FaultReg.mk false false false).set c := by decide

theorem witness_LifecycleFault :
    flipNext.faulted = false ∧ flipNext.status.active = true ∧
    (idle operands []).faulted = false ∧ (idle operands []).status.active = false := by decide

/-- Each reason of 46_plugin_commands.md R245 at its first value. -/
theorem witness_InitUnsupported : ∀ o ∈ [OperandRegs.mk 0 0 2 4 16, ⟨0, 5, 2, 10, 40⟩, ⟨0, 2, 0, 4, 16⟩,
    ⟨0, 2, 5, 4, 16⟩, ⟨0, 2, 2, 5, 16⟩, ⟨0, 2, 2, 4, 17⟩],
    (idle o []).faulted = false ∧ (idle o []).status.active = false ∧
    ¬ (1 ≤ o.srcW.toNat ∧ o.srcW.toNat ≤ params.maxW ∧ 1 ≤ o.srcH.toNat ∧ o.srcH.toNat ≤ params.maxH ∧
      o.srcPitch.toNat % 2 = 0 ∧ o.dstPitch.toNat % 2 = 0) := by decide

theorem geometry_operands (sp dp : Word) (h : sp.toNat % 2 = 0 ∧ dp.toNat % 2 = 0) (p : List HostAction) :
    geometrySupported (idle ⟨0, 2, 2, sp, dp⟩ p) :=
  show 1 ≤ 2 ∧ 2 ≤ 4 ∧ 1 ≤ 2 ∧ 2 ≤ 4 ∧ sp.toNat % 2 = 0 ∧ dp.toNat % 2 = 0 from
    ⟨by decide, by decide, by decide, by decide, h⟩

/-- Each of the two pitches at its last short value. -/
theorem witness_InitShortPitch :
    geometrySupported (idle ⟨0, 2, 2, 2, 16⟩ []) ∧ ¬ pitchesHold .scale2x (idle ⟨0, 2, 2, 2, 16⟩ []) ∧
    geometrySupported (idle ⟨0, 2, 2, 4, 6⟩ []) ∧ ¬ pitchesHold .scale2x (idle ⟨0, 2, 2, 4, 6⟩ []) ∧
    (idle ⟨0, 2, 2, 4, 6⟩ []).faulted = false ∧ (idle ⟨0, 2, 2, 4, 6⟩ []).status.active = false :=
  ⟨geometry_operands _ _ (by decide) _, by unfold pitchesHold; decide,
    geometry_operands _ _ (by decide) _, by unfold pitchesHold; decide, by decide, by decide⟩

/-- Each of the two memories exceeded. -/
theorem witness_InitOverCapacity :
    geometrySupported (idle ⟨0, 2, 2, 34, 16⟩ []) ∧ pitchesHold .scale2x (idle ⟨0, 2, 2, 34, 16⟩ []) ∧
    ¬ surfacesFit .scale2x (idle ⟨0, 2, 2, 34, 16⟩ []) ∧
    geometrySupported (idle ⟨0, 2, 2, 4, 66⟩ []) ∧ pitchesHold .scale2x (idle ⟨0, 2, 2, 4, 66⟩ []) ∧
    ¬ surfacesFit .scale2x (idle ⟨0, 2, 2, 4, 66⟩ []) :=
  ⟨geometry_operands _ _ (by decide) _, by unfold pitchesHold; decide,
    by unfold surfacesFit; decide,
    geometry_operands _ _ (by decide) _, by unfold pitchesHold; decide,
    by unfold surfacesFit; decide⟩

/-- A state ready for INIT of any filter whose backend answers as given. -/
def ready (ans : BackendAnswer) : State :=
  { idle operands [] with host := ⟨[], 0, some ans, none, []⟩ }

theorem ready_meets (ans : BackendAnswer) (f : Filter) :
    (ready ans).faulted = false ∧ (ready ans).status.active = false ∧ geometrySupported (ready ans) ∧
    pitchesHold f (ready ans) ∧ surfacesFit f (ready ans) ∧ backendReply (ready ans) = ans :=
  ⟨rfl, rfl, geometry_operands 4 16 (by decide) [],
    show 2 * 2 ≤ 4 ∧ 2 * 2 * multiplier f ≤ 16 by cases f <;> decide,
    show 4 * 2 ≤ 64 ∧ 16 * 2 * multiplier f ≤ 256 by cases f <;> decide, rfl⟩

theorem witness_InitBackendAnswer :
    backendReply (ready .ok) = .ok ∧ backendReply (ready .failAlloc) = .failAlloc ∧
    backendReply (ready .failUnsupported) = .failUnsupported ∧
    geometrySupported (ready .failAlloc) ∧ pitchesHold .bicubic (ready .failAlloc) ∧
    surfacesFit .bicubic (ready .failAlloc) ∧ (ready .failAlloc).faulted = false :=
  have h := ready_meets .failAlloc .bicubic
  ⟨rfl, rfl, rfl, h.2.2.1, h.2.2.2.1, h.2.2.2.2.1, h.1⟩

theorem witness_FlipWithoutTables :
    let s := { running .ctm644 operands [] with status := ⟨true, false, .full, .ctm644⟩ }
    s.faulted = false ∧ s.status.active = true ∧ s.status.filter = .ctm644 ∧
    s.status.lutValid = false := by decide

/-- The invariant holds of every inactive block of `idle` whose CFG has no reserved bit set. -/
theorem idle_inv (o : OperandRegs) (h : o.cfg &&& ~~~cfgMask = 0) (p : List HostAction) :
    Inv (idle o p) where
  srcWf := .nil
  dstWf := .nil
  srcIn := by intro c hc; cases hc
  dstIn := by intro c hc; cases hc
  cfg := h
  palIn := zero_palette
  pal := zero_palette
  oneFault := show 0 ≤ 1 by decide
  inactive := fun _ => ⟨rfl, rfl, rfl⟩
  latched := by intro h; cases h
  lutValid := show false = true ↔ false = true ∧ Filter.direct = .ctm644 by simp
  tables := by intro h; cases h
  preset := fun _ => rfl
  cp := Nat.zero_le _

/-- An INIT (both pitches hold) and a FLIP. -/
theorem witness_CorrectHostNeverFaults :
    (Inv (idle operands []) ∧ (idle operands []).faulted = false ∧
      lifecycleLegal .initCtm644 (idle operands []) ∧ pitchesHold .ctm644 (idle operands [])) ∧
    (Inv flipNext ∧ flipNext.faulted = false ∧ lifecycleLegal .flip flipNext ∧
      ∀ f, Instr.flip ≠ initOf f) :=
  ⟨⟨idle_inv _ (show (0 : Word) &&& ~~~cfgMask = 0 by decide) _, by decide, rfl, by unfold pitchesHold; decide⟩,
    running_inv _ _, by decide, rfl, by intro f; cases f <;> decide⟩

theorem witness_InitSucceeds :
    Filter.superEagle ≠ .ctm644 ∧ 2 = (if Filter.superEagle = .direct then 1 else 2) ∧
    1 = (if Filter.direct = .direct then 1 else 2) ∧ (ready .ok).faulted = false ∧ (ready .ok).status.active = false ∧
    geometrySupported (ready .ok) ∧ pitchesHold .superEagle (ready .ok) ∧
    surfacesFit .superEagle (ready .ok) ∧ backendReply (ready .ok) = .ok ∧
    (ready .ok).operand.srcH.toNat * 2 < 2 ^ 32 :=
  ⟨by decide, by decide, by decide, (ready_meets .ok .superEagle).1, rfl, (ready_meets .ok .superEagle).2.2.1,
    (ready_meets .ok .superEagle).2.2.2.1, (ready_meets .ok .superEagle).2.2.2.2.1, rfl, by decide⟩

/-- Both clauses: tables not built, and (in no reachable state) built. -/
theorem witness_InitCtm644Succeeds :
    (ready .ok).status.lutValid = false ∧ geometrySupported (ready .ok) ∧
    pitchesHold .ctm644 (ready .ok) ∧ surfacesFit .ctm644 (ready .ok) ∧ backendReply (ready .ok) = .ok ∧
    (let s := { ready .ok with status := ⟨false, true, .half, .direct⟩ }
     s.status.lutValid = true ∧ s.status.active = false ∧ geometrySupported s ∧
      pitchesHold .ctm644 s ∧ surfacesFit .ctm644 s ∧ backendReply s = .ok) :=
  have h := ready_meets .ok .ctm644
  ⟨rfl, h.2.2.1, h.2.2.2.1, h.2.2.2.2.1, rfl, rfl, rfl, h.2.2.1, h.2.2.2.1, h.2.2.2.2.1, rfl⟩

theorem witness_SetPalCommits : flipNext.faulted = false ∧ flipNext.status.active = true := by
  decide

/-- Both clauses: CTM644 and another filter. -/
theorem witness_CloseReleases :
    (running .ctm644 operands []).faulted = false ∧ (running .ctm644 operands []).status.active = true ∧
    (running .ctm644 operands []).status.filter = .ctm644 ∧ flipNext.faulted = false ∧
    flipNext.status.active = true ∧ flipNext.status.filter ≠ .ctm644 := by decide

theorem witness_FlipCompletes :
    Inv (running .bicubic operands []) ∧ (running .bicubic operands []).faulted = false ∧
    (running .bicubic operands []).status.active = true ∧
    (running .bicubic operands []).operand.srcH.toNat * multiplier .bicubic < 2 ^ 32 :=
  ⟨running_inv _ _, by decide, rfl, by decide⟩

theorem witness_FlipStaysInRange :
    Inv (running .ctm644 operands []) ∧ (running .ctm644 operands []).faulted = false ∧
    (running .ctm644 operands []).status.active = true :=
  ⟨running_inv _ _, by decide, rfl⟩

theorem witness_FlipDirectCopies :
    Inv flipNext ∧ flipNext.faulted = false ∧ flipNext.status.active = true ∧
    flipNext.status.filter = .direct := ⟨running_inv _ _, by decide, rfl, rfl⟩

theorem witness_ScaleBrightnessChannels :
    1 ≤ 8 ∧ channelOf .rgb565 .red (scaleBrightness .rgb565 0x8410 9 8) = 18 := by decide

/-- Each clause: an inner pixel, the last column, the last row. -/
theorem witness_BilinearChannels :
    (0 < q.w ∧ 0 < q.h ∧ 0 + 1 < q.w ∧ 0 + 1 < q.h) ∧ (1 < q.w ∧ 1 + 1 = q.w) ∧
    (1 < q.h ∧ 1 + 1 = q.h) := by decide

theorem witness_LastRowDuplicated : 1 ≤ q.h ∧ q.h = 2 := by decide

theorem witness_DotMatrixPixel : 3 % 4 * 4 + 3 % 4 < 16 ∧ 0 % 4 * 4 + 0 % 4 < 16 := by decide

theorem witness_FlatImageStaysFlat :
    (∀ x y, x < (window [[7, 7], [7, 7]]).w → y < (window [[7, 7], [7, 7]]).h →
      (window [[7, 7], [7, 7]]).px x y = 7) ∧ 3 < 2 * (window [[7, 7], [7, 7]]).w := by
  refine ⟨?_, by decide⟩
  intro x y hx hy
  have hx' : x = 0 ∨ x = 1 := by simp only [window] at hx; simp at hx; omega
  have hy' : y = 0 ∨ y = 1 := by simp only [window] at hy; simp at hy; omega
  rcases hx' with rfl | rfl <;> rcases hy' with rfl | rfl <;> rfl

/-- Both clauses, the second at the corner (0, 0), where the taps above and left are missing. -/
theorem witness_Scale2xNoNewColour :
    3 < 2 * q.w ∧ 3 < 2 * q.h ∧
    q.px 0 0 = (if 0 < 0 ∧ 0 - 1 < q.h ∧ 0 < q.w then q.px 0 (0 - 1) else q.px 0 0) ∧
    q.px 1 0 = (if 0 + 1 < q.w ∧ 0 < q.h then q.px (0 + 1) 0 else q.px 0 0) := by decide

theorem witness_EdgeFiltersStayInRange :
    (∀ x y, x < q.w → y < q.h → 0 ≤ channelOf .rgb565 .red (q.px x y) ∧
      channelOf .rgb565 .red (q.px x y) ≤ 31) ∧ 3 < 2 * q.w ∧ 3 < 2 * q.h :=
  ⟨fun _ _ _ _ => ⟨Nat.zero_le _, Nat.and_le_right⟩, by decide, by decide⟩

theorem witness_BicubicStaysInRange : ∀ i j : Nat, i < 4 → j < 4 →
    bicubicWeight (1 % 2) i ≠ 0 → bicubicWeight (1 % 2) j ≠ 0 →
    0 ≤ channelOf .rgb565 .red (q.tap (1 / 2) (1 / 2) ((j : Int) - 1) ((i : Int) - 1)) ∧
    channelOf .rgb565 .red (q.tap (1 / 2) (1 / 2) ((j : Int) - 1) ((i : Int) - 1)) ≤ 31 :=
  fun _ _ _ _ _ _ => ⟨Nat.zero_le _, Nat.and_le_right⟩

/-- White; black; black under white; a grey. -/
theorem witness_LumaProperties :
    (∀ c, expand8 .rgb565 0xFFFF c = 255) ∧ (∀ c, expand8 .rgb565 0x0000 c = 0) ∧
    (∀ c, channelOf .rgb565 c 0x0000 ≤ channelOf .rgb565 c 0xFFFF) ∧
    (∀ c, expand8 .rgb555 0x4210 c = 132) := by
  refine ⟨?_, ?_, ?_, ?_⟩ <;> intro c <;> cases c <;> decide

theorem witness_GammaIsRoundedPower : (0 : ℚ) < 5 / 4 ∧ 146 ≤ 255 ∧ 255 ≤ 255 := by decide +kernel

theorem witness_ShapeStaysOnScale : record.wellFormed = true := by decide +kernel

/-- A neighbour that bleeds from the right at column 0, where none can bleed from the left. -/
theorem witness_SmearKeepsUnbledPixels_bleeding :
    (false = true ↔ 0 < 0 ∧ ((LumaTable.built .rgb565).read (q.px 0 0)).toNat + 16 <
      ((LumaTable.built .rgb565).read (q.px (0 - 1) 0)).toNat) ∧
    (true = true ↔ 0 + 1 < q.w ∧ ((LumaTable.built .rgb565).read (q.px 0 0)).toNat + 16 <
      ((LumaTable.built .rgb565).read (q.px (0 + 1) 0)).toNat) := by decide

/-- A pixel no brighter neighbour bleeds into. -/
theorem witness_SmearKeepsUnbledPixels :
    ((LumaTable.built .rgb565).read (q.px 0 0)).toNat ≤ ((LumaTable.built .rgb565).read (q.px 1 0)).toNat + 16 ∧
    ¬ 1 + 1 < q.w := by decide

/-- The last entry of each pattern. -/
theorem witness_Ctm644Outputs_pattern :
    params.patHalf[7 % 4][11 % 6] = (.blue, .bright) ∧
    params.patFull[7 % 4][23 % 12] = (.blue, .bright) := by decide

/-- Two windows that agree on row 0 only. -/
theorem witness_Ctm644Outputs :
    q.w = (window [[0x0000, 0xFFFF], [0, 0]]).w ∧
    (∀ x, x < q.w → q.px x (3 / 4) = (window [[0x0000, 0xFFFF], [0, 0]]).px x (3 / 4)) ∧ 7 < 4 * q.w := by
  refine ⟨rfl, ?_, by decide⟩
  intro x hx
  have : x = 0 ∨ x = 1 := by simp only [q, window] at hx; simp at hx; omega
  rcases this with rfl | rfl <;> rfl

/-- The least surface, and the `sz < n * m` clause. -/
theorem witness_ResolveAxisProperties :
    1 ≤ 1 ∧ (2 = 1 ∨ 2 = 2 ∨ 2 = 4) ∧ 2 ≤ 2 ∧ 9 < 4 * 4 ∧ resolveAxis 1 2 2 = ⟨0, 1, 0, 2⟩ := by decide

/-- Frozen while active, taken while not, at each of the five offsets. -/
theorem witness_OperandFreeze :
    (∀ r ∈ [Reg.cfg, .srcW, .srcH, .srcPitch, .dstPitch],
      (running .direct operands [.wr r.offset 9]).status.active = true ∧
      fetchAction (running .direct operands [.wr r.offset 9]) = some (.wr r.offset 9)) ∧
    ∀ off ∈ [0x010, 0x014, 0x018, 0x01C, 0x020],
      (idle operands [.wr off 9]).status.active = false ∧
      fetchAction (idle operands [.wr off 9]) = some (.wr off 9) := by decide

/-- The ends of each range of offsets. -/
theorem witness_ReadOnlyWritesIgnored :
    (∀ off ∈ [0x004, 0x00C, 0x024, 0x04C, 0x050, 0x07C, 0x100, 0x17C, 0x180, 0x1A4, 0x1A8],
      off % 4 = 0 ∧ ((0x004 ≤ off ∧ off ≤ 0x00C) ∨ (0x024 ≤ off ∧ off < 0x080) ∨ 0x100 ≤ off) ∧
      fetchAction (idle operands [.wr off 9]) = some (.wr off 9)) ∧
    ∀ off ∈ [0x050, 0x07C, 0x1A8], off % 4 = 0 ∧ ((0x050 ≤ off ∧ off < 0x080) ∨ 0x1A8 ≤ off) ∧
      fetchAction (idle operands [.rd off]) = some (.rd off) := by decide

theorem witness_PaletteStaging : ∀ i ∈ [(0 : Fin 32), 31],
    fetchAction (idle operands [.wr (0x080 + 4 * i.val) 9]) = some (.wr (0x080 + 4 * i.val) 9) := by
  decide

theorem witness_StatusFields : ∀ off ∈ [0x004, 0x008, 0x00C],
    fetchAction (idle operands [.rd off]) = some (.rd off) := by
  decide

/-- Each kind of read, the memories at their last byte, pixel and word. -/
theorem witness_HostReads :
    (∀ off ∈ [0x000, 0x010, 0x04C, 0x080, 0x080 + 4 * 31, 0x100, 0x100 + 4 * 31],
      fetchAction (idle operands [.rd off]) = some (.rd off)) ∧
    (∀ a ∈ [HostAction.read .src .byte 63, .read .src .half 62, .rs 1 1, .read .dst .byte 255,
      .read .dst .half 254, .rdst 3 3], fetchAction (running .tv2x operands [a]) = some a) ∧
    (running .tv2x operands []).status.active = true ∧ 63 < params.srcMemBytes ∧
    62 % 2 = 0 ∧ 62 + 2 ≤ params.srcMemBytes ∧ 6 = 1 * operands.srcPitch.toNat + 2 * 1 ∧
    255 < params.dstMemBytes ∧ 254 + 2 ≤ params.dstMemBytes ∧
    54 = 3 * operands.dstPitch.toNat + 2 * 3 := by decide

theorem witness_DescriptorFields : ∀ f ∈ [Filter.direct, .ctm644],
    fetchAction (idle operands [.rd (0x180 + 4 * f.id)]) = some (.rd (0x180 + 4 * f.id)) := by
  decide

/-- The first and the last pixel of the source. -/
theorem witness_SourceWriteReadsBack : ∀ n ∈ [0, 1],
    let s := running .direct operands [.ws n n 0xABCD]
    fetchAction s = some (.ws n n 0xABCD) ∧ s.status.active = true ∧ s.operand.srcPitch.toNat % 2 = 0 ∧
    n * s.operand.srcPitch.toNat + 2 * n + 2 ≤ s.params.srcMemBytes := by decide

/-- The first and the last word of TRIADMEM, the last byte of LUMAMEM. -/
theorem witness_TableSpaces :
    (∀ a ∈ [0, 786430], fetchAction (idle operands [.read .triadMem .half a]) =
      some (.read .triadMem .half a)) ∧
    2 * ((2 * 2 + 1) * 65536 + (0xFFFF : Pixel).toNat) = 786430 ∧
    fetchAction (idle operands [.read .lumaMem .byte 65535]) = some (.read .lumaMem .byte 65535) := by
  decide

theorem witness_ResetFromAnyState : fetchAction (faultedBy .lutUnbuilt [.reset]) = some .reset := by
  decide

/-- A register write, and SETPAL. -/
theorem witness_DstWrittenByFlipOnly :
    (nextOf (step (idle operands [.wr 0x014 3]))).isSome = true ∧
    fetchAction (idle operands [.wr 0x014 3]) ≠ some .reset ∧ (0x014 : Nat) ≠ 0 ∧
    (nextOf (step (running .direct operands [.wr 0 2]))).isSome = true ∧
    decode 2 = .ok .setPal := by decide

theorem witness_TablesChangeAtActivation :
    (nextOf (step flipNext)).isSome = true ∧ fetchAction flipNext ≠ some .reset ∧
    fetchAction flipNext = some (.wr 0 3) ∧ decode 3 = .ok .flip ∧ Instr.flip ≠ .initCtm644 ∧
    Instr.flip ≠ .close := by decide

end Sys2Proof.Tests
end

section
/-!
PROOF. The register map of 10_state.md R21 and R43 in both directions, and what a step is at each kind
of host action: the facts the register statements of 10_state.md rest on.
-/

namespace Sys2Proof.Machine

open Sys2Proof

/-! The register map. -/

theorem Filter.id_le_nine (f : Filter) : f.id ≤ 9 := by cases f <;> decide

theorem Filter.ofId_id (f : Filter) : Filter.ofId f.id = some f := by cases f <;> rfl

theorem Filter.id_of_ofId {n : Nat} {f : Filter} (h : Filter.ofId n = some f) : f.id = n := by
  unfold Filter.ofId at h
  split at h <;> cases h <;> rfl

/-- Every register is found at its offset (10_state.md R21). -/
theorem Reg.ofOffset_offset (r : Reg) : Reg.ofOffset r.offset = some r := by
  cases r with
  | palIn i =>
    simp [Reg.ofOffset, Reg.offset, show (128 + 4 * i.val) % 4 = 0 by omega,
      show ¬ 128 + 4 * i.val < 80 by omega, show 128 + 4 * i.val < 256 by omega]
  | pal i =>
    simp [Reg.ofOffset, Reg.offset, show (256 + 4 * i.val) % 4 = 0 by omega,
      show ¬ 256 + 4 * i.val < 80 by omega, show ¬ 256 + 4 * i.val < 128 by omega,
      show 256 + 4 * i.val < 384 by omega]
  | desc f => cases f <;> rfl
  | _ => rfl

/-- What is found at an offset has that offset, so no two registers share one. -/
theorem Reg.offset_of_ofOffset {off : Nat} {r : Reg} (h : Reg.ofOffset off = some r) :
    r.offset = off := by
  unfold Reg.ofOffset at h
  split at h
  · cases h
  split at h
  · split at h
    case h_20 => cases h; simp only [imp_false] at *; show 0x04C = off; omega
    all_goals cases h; simp only [Reg.offset]; omega
  split at h
  · cases h
  split at h
  · cases h; simp [Reg.offset]; omega
  split at h
  · cases h; simp [Reg.offset]; omega
  · obtain ⟨f, hf, rfl⟩ := Option.map_eq_some_iff.1 h
    simp only [Reg.offset, Filter.id_of_ofId hf]; omega

theorem Reg.offset_mod_four (r : Reg) : r.offset % 4 = 0 := by
  cases r <;> simp [Reg.offset]

theorem Reg.offset_pos {r : Reg} (h : r ≠ .cmd) : r.offset ≠ 0 := by
  cases r <;> simp_all [Reg.offset]

/-- The ranges of 10_state.md R43 hold no register. -/
theorem Reg.ofOffset_reserved {off : Nat} (h : (0x050 ≤ off ∧ off < 0x080) ∨ 0x1A8 ≤ off) :
    Reg.ofOffset off = none := by
  rw [Option.eq_none_iff_forall_ne_some]
  intro r hr
  have hoff := Reg.offset_of_ofOffset hr
  cases r with
  | desc f => have := Filter.id_le_nine f; simp only [Reg.offset] at hoff; omega
  | _ => simp only [Reg.offset] at hoff; omega

theorem offsetRead_offset (s : State) (r : Reg) : offsetRead s r.offset = regRead s r := by
  simp [offsetRead, Reg.ofOffset_offset]

theorem offsetWrite_offset (s : State) (r : Reg) (v : Word) :
    offsetWrite s r.offset v = regWrite s v r := by
  simp [offsetWrite, Reg.ofOffset_offset]

/-- A write at the offset of a read-only register, or at a reserved offset, is ignored. -/
theorem offsetWrite_readOnly (s : State) (v : Word) {off : Nat}
    (h : (0x004 ≤ off ∧ off ≤ 0x00C) ∨ (0x024 ≤ off ∧ off < 0x080) ∨ 0x100 ≤ off) :
    offsetWrite s off v = s := by
  unfold offsetWrite
  cases hr : Reg.ofOffset off with
  | none => rfl
  | some r =>
    have hoff := Reg.offset_of_ofOffset hr
    cases r with
    | cfg | srcW | srcH | srcPitch | dstPitch | palIn => simp only [Reg.offset] at hoff; omega
    | _ => rfl

/-- A write of an operand register is lost while a plugin is active (10_state.md R42). -/
theorem writeOperand_active {s : State} (h : s.status.active = true) (o : OperandRegs) :
    writeOperand s o = s := by simp [writeOperand, h]

/-- While no plugin is active an operand register takes the value written. -/
theorem writeOperand_inactive {s : State} (h : s.status.active = false) (o : OperandRegs) :
    writeOperand s o = { s with operand := o } := by simp [writeOperand, h]

/-! What a step is, by the action it fetches (10_state.md R40). -/

theorem step_of_end {s : State} (h : fetchAction s = none) : step s = .fault .runEnded := by
  simp [step, h]

theorem step_of_command {s : State} {c : Word} (h : fetchAction s = some (.wr 0 c)) :
    step s = afterAction (execWord c s) := by
  simp [step, h, commandWord_some.2 rfl]

theorem step_of_hostAction {s : State} {a : HostAction} (h : fetchAction s = some a)
    (hc : commandWord a = none) : step s = afterAction (hostAction a s) := by
  simp [step, h, hc]

/-- A step at an aligned register write that is no command. -/
theorem step_of_wr {s : State} {off : Nat} {v : Word} (h : fetchAction s = some (.wr off v))
    (hal : off % 4 = 0) (h0 : off ≠ 0) : step s = .next (advance (offsetWrite s off v)) := by
  rw [step_of_hostAction h (if_neg h0)]
  simp [hostAction, hal, afterAction]

/-- A step at an aligned register read. -/
theorem step_of_rd {s : State} {off : Nat} (h : fetchAction s = some (.rd off)) (hal : off % 4 = 0) :
    step s = .next (advance (hostReceives s (offsetRead s off))) := by
  rw [step_of_hostAction h rfl]
  simp [hostAction, hal, afterAction]

/-- A step at a write of a register other than CMD, by its name. -/
theorem step_writes_reg {s : State} (r : Reg) {v : Word} (h : fetchAction s = some (.wr r.offset v))
    (hr : r ≠ .cmd) : step s = .next (advance (regWrite s v r)) := by
  rw [step_of_wr h (Reg.offset_mod_four r) (Reg.offset_pos hr), offsetWrite_offset]

/-- A step at a read of a register, by its name. -/
theorem step_reads_reg {s : State} (r : Reg) (h : fetchAction s = some (.rd r.offset)) :
    step s = .next (advance (hostReceives s (regRead s r))) := by
  rw [step_of_rd h (Reg.offset_mod_four r), offsetRead_offset]

/-- A host read of a space it owns, well formed and in range, answers. -/
theorem hostRead_answers {s : State} {sp : Space} {w : AccessWidth} {a : Nat}
    (hw : (HostAction.read sp w a).wellFormed = true) (ho : hostOwns s sp = true)
    (hr : a + accessBytes w ≤ spaceBytes s sp) :
    hostRead s sp w a = .next (hostReceives s (spaceRead s sp w a)) := by
  simp [hostRead, hw, ho, hr]

/-- A step at an action that is a host read of a space it owns, well formed and in range. -/
theorem step_reads_space {s : State} {act : HostAction} {sp : Space} {w : AccessWidth} {a : Nat}
    (h : fetchAction s = some act) (hc : commandWord act = none)
    (hact : hostAction act s = hostRead s sp w a)
    (hw : (HostAction.read sp w a).wellFormed = true) (ho : hostOwns s sp = true)
    (hr : a + accessBytes w ≤ spaceBytes s sp) :
    step s = .next (advance (hostReceives s (spaceRead s sp w a))) := by
  rw [step_of_hostAction h hc, hact, hostRead_answers hw ho hr, afterAction]

/-- The pixel of two bytes as the host receives it: little-endian, zero-extended (20_memory.md R61). -/
theorem setWidth_pixelOfBytes (lo hi : Byte) :
    (pixelOfBytes lo hi).setWidth 32 = BitVec.ofNat 32 (lo.toNat + 256 * hi.toNat) := by
  apply BitVec.eq_of_toNat_eq
  have hval : (pixelOfBytes lo hi).toNat = lo.toNat + 256 * hi.toNat := by
    rw [pixelOfBytes, BitVec.toNat_append, ← Nat.shiftLeft_add_eq_or_of_lt lo.isLt, Nat.shiftLeft_eq]
    omega
  simp [hval]

/-! The fields of a register view given as a sum. -/

theorem bit_le_one (b : Bool) : bit b ≤ 1 := by cases b <;> decide

/-- One bit of a register, read off the sum its view is. -/
theorem getLsbD_ofNat_of_bit {n i : Nat} {b : Bool} (hi : i < 32) (h : n / 2 ^ i % 2 = bit b) :
    (BitVec.ofNat 32 n).getLsbD i = b := by
  simp only [BitVec.getLsbD_ofNat, hi, decide_true, Bool.true_and, Nat.testBit_eq_decide_div_mod_eq, h]
  cases b <;> rfl

/-- A field of a register, read off the sum its view is. -/
theorem extractLsb'_ofNat {n i k m : Nat} (hn : n < 2 ^ 32) (h : n / 2 ^ i % 2 ^ k = m % 2 ^ k) :
    (BitVec.ofNat 32 n).extractLsb' i k = BitVec.ofNat k m := by
  apply BitVec.eq_of_toNat_eq
  rw [BitVec.extractLsb'_toNat, BitVec.toNat_ofNat, Nat.mod_eq_of_lt hn, Nat.shiftRight_eq_div_pow, h,
    BitVec.toNat_ofNat]

/-! ## The statements about the register map and the accesses -/

/-- Settles O4: an offset that holds a register is that register's, and no register has a reserved
one. -/
theorem registerMap : Obligations.RegisterMap :=
  ⟨Reg.ofOffset_offset, fun _ h => Reg.ofOffset_reserved h⟩

/-- Settles O5: the word decodes, so the write of CMD is the command. -/
theorem stepRunsCommand : Obligations.StepRunsCommand := by
  intro s c i hf hd _
  simp [step_of_command hf, execWord, hd]

/-- Settles O7: beyond the last action nothing is fetched. -/
theorem stepFollowsIndex : Obligations.StepFollowsIndex :=
  ⟨fun s h => step_of_end (by simp [fetchAction, h]), fun _ _ hf hc => step_of_hostAction hf hc⟩

/-- Settles O49, by the two cases of `writeOperand`. -/
theorem operandFreeze : Obligations.OperandFreeze := by
  intro s v
  refine ⟨fun ha r hr hf => ?_, fun ha => ⟨fun hf => ?_, fun hf => ?_, fun hf => ?_, fun hf => ?_,
    fun hf => ?_⟩⟩
  · rcases hr with rfl | rfl | rfl | rfl | rfl <;>
      rw [step_writes_reg _ hf (by simp), regWrite, writeOperand_active ha]
  · rw [step_writes_reg .cfg hf (by simp), regWrite, writeOperand_inactive ha]; rfl
  · rw [step_writes_reg .srcW hf (by simp), regWrite, writeOperand_inactive ha]
  · rw [step_writes_reg .srcH hf (by simp), regWrite, writeOperand_inactive ha]
  · rw [step_writes_reg .srcPitch hf (by simp), regWrite, writeOperand_inactive ha]
  · rw [step_writes_reg .dstPitch hf (by simp), regWrite, writeOperand_inactive ha]

/-- Settles O50: what is found at such an offset ignores the write, and the reserved ones hold nothing. -/
theorem readOnlyWritesIgnored : Obligations.ReadOnlyWritesIgnored := by
  constructor
  · intro s off v hal hoff hf
    rw [step_of_wr hf hal (by omega), offsetWrite_readOnly s v hoff]
  · intro s off hal hoff hf
    rw [step_of_rd hf hal, offsetRead, Reg.ofOffset_reserved hoff]

/-- Settles O51: staging is a write of PAL_IN by its name, one entry set. -/
theorem paletteStaging : Obligations.PaletteStaging := by
  intro s i v hf
  refine ⟨_, step_writes_reg (.palIn i) hf (by simp), ?_, fun j hj => ?_, rfl⟩
  · simp [regWrite, paletteEntry, paletteMask]
  · have hne : i.val ≠ j.val := fun h => hj (Fin.ext h.symm)
    simp [regWrite, hne]

/-- Settles O52: each field of the three views is a digit of the sum the view is. -/
theorem statusFields : Obligations.StatusFields := by
  intro s
  refine ⟨fun hf => ⟨_, step_reads_reg .status hf, ?_⟩, fun hf => ?_,
    fun hf => ⟨_, step_reads_reg .fault hf, ?_⟩⟩
  · have hact := bit_le_one s.status.active
    have hlut := bit_le_one s.status.lutValid
    have hflt := bit_le_one s.faulted
    have hid := Filter.id_le_nine s.status.filter
    have hpre : Preset.code s.status.preset = bit (decide (s.status.preset = .half)) := by
      cases s.status.preset <;> rfl
    have hpre' := bit_le_one (decide (s.status.preset = .half))
    simp only [regRead, State.statusWord, hpre]
    refine ⟨getLsbD_ofNat_of_bit (by omega) ?_, getLsbD_ofNat_of_bit (by omega) ?_,
      getLsbD_ofNat_of_bit (by omega) ?_, getLsbD_ofNat_of_bit (by omega) ?_,
      extractLsb'_ofNat (m := 0) (by omega) ?_, ?_, extractLsb'_ofNat (m := 0) (by omega) ?_⟩
    case refine_6 =>
      rw [extractLsb'_ofNat (m := s.status.filter.id) (by omega) (by omega)]
      cases s.status.filter <;> rfl
    all_goals omega
  · rw [step_reads_reg .result hf, regRead]
    cases s.result <;> rfl
  · have hlif := bit_le_one s.fault.lifecycle
    have hpit := bit_le_one s.fault.pitch
    have hlut := bit_le_one s.fault.lutUnbuilt
    refine ⟨getLsbD_ofNat_of_bit (by omega) ?_, getLsbD_ofNat_of_bit (by omega) ?_,
      getLsbD_ofNat_of_bit (by omega) ?_, extractLsb'_ofNat (m := 0) (by omega) ?_⟩
    all_goals omega

/-- Settles O53: each field of DESC is a digit of the sum the view is. -/
theorem descriptorFields : Obligations.DescriptorFields := by
  intro s f hf
  refine ⟨_, step_reads_reg (.desc f) hf, ?_⟩
  have hid : f.id < 10 := by have := Filter.id_le_nine f; omega
  have hmul : multiplier f = if f = .direct then 1 else if f = .ctm644 then 4 else 2 := by
    cases f <;> rfl
  have hval : multiplier f = 1 ∨ multiplier f = 2 ∨ multiplier f = 4 := by cases f <;> decide
  have hhid : (if s.params.hidden[f.id]?.getD false then 1 else 0) = bit s.params.hidden[f.id] := by
    simp [hid, bit]
  have hbit := bit_le_one s.params.hidden[f.id]
  simp only [regRead, descWord, hhid, ← hmul]
  clear hmul hhid
  refine ⟨?_, ?_, ?_, extractLsb'_ofNat (m := 0) (by omega) (by omega)⟩
  · rw [extractLsb'_ofNat (m := multiplier f) (by omega) (by omega), BitVec.toNat_ofNat]; omega
  · rw [extractLsb'_ofNat (m := multiplier f) (by omega) (by omega), BitVec.toNat_ofNat]; omega
  · rw [getLsbD_ofNat_of_bit (b := s.params.hidden[f.id]) (by omega) (by omega)]
    simp [hid]

/-- Settles O60: each read is a read of a register by its name, or of a space. -/
theorem hostReads : Obligations.HostReads := by
  intro s
  refine ⟨fun _ => rfl, ?_, fun i => ⟨step_reads_reg (.palIn i), step_reads_reg (.pal i)⟩,
    fun a => ⟨fun ha hr hf => ?_, fun hr hf => ?_⟩,
    fun a hal => ⟨fun ha hr hf => ?_, fun hr hf => ?_⟩⟩
  · simp only [List.forall_mem_cons]
    exact ⟨step_reads_reg .cmd, step_reads_reg .cfg, step_reads_reg .srcW, step_reads_reg .srcH,
      step_reads_reg .srcPitch, step_reads_reg .dstPitch, step_reads_reg .surfW, step_reads_reg .surfH,
      step_reads_reg .mult, step_reads_reg .clipSrcX, step_reads_reg .clipSrcY,
      step_reads_reg .clipSrcW, step_reads_reg .clipSrcH, step_reads_reg .clipDstX,
      step_reads_reg .clipDstY, step_reads_reg .clipDstW, step_reads_reg .clipDstH, by simp⟩
  · exact step_reads_space hf rfl rfl rfl ha hr
  · exact step_reads_space hf rfl rfl rfl rfl hr
  · rw [← setWidth_pixelOfBytes]
    have hw : (HostAction.read .src .half a).wellFormed = true := by simpa [HostAction.wellFormed]
    rcases hf with hf | ⟨x, y, rfl, hf⟩
    · exact step_reads_space hf rfl rfl hw ha hr
    · exact step_reads_space hf rfl rfl hw ha hr
  · rw [← setWidth_pixelOfBytes]
    have hw : (HostAction.read .dst .half a).wellFormed = true := by simpa [HostAction.wellFormed]
    rcases hf with hf | ⟨x, y, rfl, hf⟩
    · exact step_reads_space hf rfl rfl hw rfl hr
    · exact step_reads_space hf rfl rfl hw rfl hr

end Sys2Proof.Machine
end

section
/-!
PROOF. What a step leaves as it is: the effects of a command word and of any other host action said
once, and the frames of 10_state.md R26, R38 and R40 read off them.
-/

namespace Sys2Proof.Machine

open Sys2Proof

/-! What the bodies of INIT and CLOSE leave unchanged. -/

section
variable (f : Filter) (s : State)

@[simp] theorem initSuccess_fault : (initSuccess f s).fault = s.fault := by
  unfold initSuccess; split <;> simp
@[simp] theorem initSuccess_operand : (initSuccess f s).operand = s.operand := by
  unfold initSuccess; split <;> simp
@[simp] theorem initSuccess_palIn : (initSuccess f s).palIn = s.palIn := by
  unfold initSuccess; split <;> simp
@[simp] theorem initSuccess_pal : (initSuccess f s).pal = s.pal := by
  unfold initSuccess; split <;> simp
@[simp] theorem initSuccess_src : (initSuccess f s).src = Memory.fresh s.draws := by
  unfold initSuccess; split <;> simp
@[simp] theorem initSuccess_dst : (initSuccess f s).dst = Memory.fresh s.draws := by
  unfold initSuccess; split <;> simp
@[simp] theorem initSuccess_params : (initSuccess f s).params = s.params := by
  unfold initSuccess; split <;> simp
@[simp] theorem initSuccess_host : (initSuccess f s).host = s.host := by
  unfold initSuccess; split <;> simp

@[simp] theorem closeBody_fault : (closeBody s).fault = s.fault := by
  unfold closeBody; split <;> simp
@[simp] theorem closeBody_operand : (closeBody s).operand = s.operand := by
  unfold closeBody; split <;> simp
@[simp] theorem closeBody_palIn : (closeBody s).palIn = s.palIn := by
  unfold closeBody; split <;> simp
@[simp] theorem closeBody_pal : (closeBody s).pal = s.pal := by
  unfold closeBody; split <;> simp
@[simp] theorem closeBody_src : (closeBody s).src = Memory.fresh s.draws := by
  unfold closeBody; split <;> simp
@[simp] theorem closeBody_dst : (closeBody s).dst = Memory.fresh s.draws := by
  unfold closeBody; split <;> simp
@[simp] theorem closeBody_params : (closeBody s).params = s.params := by
  unfold closeBody; split <;> simp
@[simp] theorem closeBody_host : (closeBody s).host = s.host := by
  unfold closeBody; split <;> simp

end

/-- What a write of a command word can do to the machine, the tests that led there kept
(46_plugin_commands.md R240, 60_exceptions.md R281 to R284). -/
inductive CommandEffect (s : State) : State → Prop
  /-- RESULT only: a refusal, an illegal word, an INIT that fails before the handshake. -/
  | answered (r : ResultCode) : CommandEffect s (s.setResult r)
  | raised (c : FaultCause) (hq : s.faulted = false) : CommandEffect s (raiseFault c s)
  /-- The handshake was asked and its answer is a failure. -/
  | initFailed (f : Filter) (r : ResultCode) : CommandEffect s (failInit r (askCreateBuffer f s))
  | initialised (f : Filter) (ha : s.status.active = false) (hg : geometryUnsupported s = false)
      (hp : pitchTooShort f s = false) (ho : overCapacity f s = false) :
      CommandEffect s (initSuccess f (askCreateBuffer f s))
  | paletteSet : CommandEffect s (setPalBody s)
  | flipped (ha : s.status.active = true) (hr : flipInRange s (flipClip s) = true) :
      CommandEffect s (flipEffect s (flipClip s))
  | closed (ha : s.status.active = true) : CommandEffect s (closeBody s)

theorem initBody_effect (f : Filter) {s : State} (hq : s.faulted = false)
    (ha : s.status.active = false) : CommandEffect s (initBody f s) := by
  rcases initBody_cases f s with ⟨_, e⟩ | ⟨_, _, e⟩ | ⟨_, _, _, e⟩ | ⟨hg, hp, ho, h⟩
  · rw [e]; exact .answered _
  · rw [e]; exact .raised _ hq
  · rw [e]; exact .answered _
  · rcases h with ⟨_, e⟩ | ⟨_, e⟩ | ⟨_, e⟩ <;> rw [e]
    · exact .initFailed f _
    · exact .initFailed f _
    · exact .initialised f ha hg hp ho

theorem flipBody_effect {s t : State} (hq : s.faulted = false) (ha : s.status.active = true)
    (h : flipBody s = .next t) : CommandEffect s t := by
  rcases flipBody_cases s with ⟨_, _, e⟩ | ⟨_, hr, e⟩ | ⟨_, e, _⟩ <;> rw [e] at h <;> cases h
  · exact .raised _ hq
  · exact .flipped ha hr

/-- Every next state a command word can reach. -/
theorem execWord_effect {c : Word} {s t : State} (h : execWord c s = .next t) :
    CommandEffect s t := by
  rcases execWord_next h with ⟨i, _, h⟩ | ⟨_, rfl⟩ | ⟨_, rfl⟩
  · rcases exec_next h with ⟨_, rfl⟩ | ⟨hq, rfl⟩ | ⟨hq, ha, f, _, rfl⟩ | ⟨_, _, _, rfl⟩ |
      ⟨hq, ha, _, h⟩ | ⟨_, ha, _, rfl⟩
    · exact .answered _
    · exact .raised _ hq
    · exact initBody_effect f hq ha
    · exact .paletteSet
    · exact flipBody_effect hq ha h
    · exact .closed ha
  · exact .answered _
  · exact .answered _

/-- A command leaves the host's list, its index and the parameters. -/
theorem CommandEffect.agent {s t : State} (h : CommandEffect s t) :
    t.host.cp = s.host.cp ∧ t.host.program = s.host.program ∧ t.params = s.params := by
  cases h <;> simp

/-- A command keeps FAULT or sets one of its bits (60_exceptions.md R284). -/
theorem CommandEffect.fault {s t : State} (h : CommandEffect s t) :
    t.fault = s.fault ∨ ∃ c, t.fault = s.fault.set c := by
  cases h with
  | raised c _ => exact .inr ⟨c, rfl⟩
  | _ => left; simp

/-- Setting a bit of FAULT clears none. -/
theorem FaultReg.set_keeps (q : FaultReg) (c : FaultCause) :
    (q.lifecycle = true → (q.set c).lifecycle = true) ∧ (q.pitch = true → (q.set c).pitch = true) ∧
    (q.lutUnbuilt = true → (q.set c).lutUnbuilt = true) := by
  cases c <;> simp +contextual [FaultReg.set]

/-- SETPAL leaves DST, in whatever way it ends. -/
theorem exec_setPal_dst {s t : State} (h : exec .setPal s = .next t) : t.dst = s.dst := by
  rcases exec_next h with ⟨_, rfl⟩ | ⟨_, rfl⟩ | ⟨_, _, f, hf, _⟩ | ⟨_, _, _, rfl⟩ | ⟨_, _, hf, _⟩ |
    ⟨_, _, hf, _⟩
  · rfl
  · rfl
  · cases f <;> cases hf
  · rfl
  · cases hf
  · cases hf

/-- A register write that is no command leaves everything but the operands and PAL_IN. -/
theorem offsetWrite_frame (s : State) (off : Nat) (v : Word) :
    ∃ o p, offsetWrite s off v = { s with operand := o, palIn := p } := by
  rcases offsetWrite_cases s off v with e | ⟨_, o, _, e⟩ | ⟨i, e⟩
  · exact ⟨s.operand, s.palIn, e⟩
  · exact ⟨o, s.palIn, e⟩
  · exact ⟨s.operand, _, e⟩

/-- A host action that is neither a command nor a reset changes at most the operands, PAL_IN, SRC, the
answer waiting for a handshake, and the values the host has read. -/
theorem hostAction_frame {a : HostAction} {s t : State} (h : hostAction a s = .next t)
    (ha : a ≠ .reset) : ∃ o p m ans rd,
      t = { s with
        operand := o, palIn := p, src := m, host := { s.host with answer := ans, reads := rd } } := by
  rcases hostAction_next h with ⟨off, v, _, rfl⟩ | ⟨v, rfl⟩ | ⟨b, v, _, _, rfl⟩ | ⟨b, v, _, _, rfl⟩ |
    ⟨ans, _, rfl⟩ | ⟨hr, _⟩
  · obtain ⟨o, p, e⟩ := offsetWrite_frame s off v
    exact ⟨o, p, s.src, s.host.answer, s.host.reads, e⟩
  · exact ⟨s.operand, s.palIn, s.src, s.host.answer, _, rfl⟩
  · exact ⟨s.operand, s.palIn, _, s.host.answer, s.host.reads, rfl⟩
  · exact ⟨s.operand, s.palIn, _, s.host.answer, s.host.reads, rfl⟩
  · exact ⟨s.operand, s.palIn, s.src, some ans, s.host.reads, rfl⟩
  · exact absurd hr ha

/-- No host action other than a command moves the host's index: a reset keeps the agent too (log 14). -/
theorem hostAction_agent {a : HostAction} {s t : State} (h : hostAction a s = .next t) :
    t.host.cp = s.host.cp ∧ t.host.program = s.host.program ∧ t.params = s.params := by
  by_cases ha : a = .reset
  · subst ha
    obtain rfl : platformReset s = t := Host.Outcome.next.inj h
    simp
  · obtain ⟨o, p, m, ans, rd, rfl⟩ := hostAction_frame h ha
    simp

/-! ## The statements about what a step leaves -/

/-- Settles O8: no action moves `cp` itself, and the step adds 1 to it. -/
theorem stepAdvancesByOne : Obligations.StepAdvancesByOne := by
  intro s t h
  obtain ⟨a, u, _, rfl, hu⟩ := step_next h
  have hagent : u.host.cp = s.host.cp ∧ u.host.program = s.host.program ∧ u.params = s.params := by
    rcases hu with ⟨c, _, hu⟩ | ⟨_, hu⟩
    · exact (execWord_effect hu).agent
    · exact hostAction_agent hu
  simpa using hagent

/-- Settles O13: a command keeps FAULT or sets a bit of it, any other action but reset keeps it. -/
theorem faultBitsSticky : Obligations.FaultBitsSticky := by
  intro s t h hreset
  obtain ⟨a, u, hf, rfl, hu⟩ := step_next h
  have hfault : u.fault = s.fault ∨ ∃ c, u.fault = s.fault.set c := by
    rcases hu with ⟨c, _, hu⟩ | ⟨_, hu⟩
    · exact (execWord_effect hu).fault
    · obtain ⟨o, p, m, ans, rd, rfl⟩ := hostAction_frame hu fun e => hreset (e ▸ hf)
      exact .inl rfl
  rw [advance_fault]
  rcases hfault with e | ⟨c, e⟩ <;> rw [e]
  · simp
  · exact FaultReg.set_keeps _ _

/-- Settles O57: of the command words left only SETPAL and illegal ones remain, and the host writes
SRC alone. -/
theorem dstWrittenByFlipOnly : Obligations.DstWrittenByFlipOnly := by
  intro s t h hreset hcmd a
  obtain ⟨act, u, hf, rfl, hu⟩ := step_next h
  have hdst : u.dst = s.dst := by
    rcases hu with ⟨c, rfl, hu⟩ | ⟨_, hu⟩
    · rcases execWord_next hu with ⟨i, hi, hu⟩ | ⟨_, rfl⟩ | ⟨_, rfl⟩
      · obtain rfl := hcmd c i hf hi
        exact exec_setPal_dst hu
      · rfl
      · rfl
    · obtain ⟨o, p, m, ans, rd, rfl⟩ := hostAction_frame hu fun e => hreset (e ▸ hf)
      rfl
  simp [State.dstByte, hdst]

end Sys2Proof.Machine
end

section
/-!
PROOF. Every step keeps the invariant of the machine. `Inv` is taken apart into clauses about single
components (a memory, a masked word, FAULT) and one clause about the plugin that is active or is not;
each command and host action is then followed clause by clause.
-/

namespace Sys2Proof.Machine

open Sys2Proof

/-! ## The clauses of the invariant -/

/-- A memory in canonical form whose listed addresses exist (20_memory.md R60). -/
structure MemoryOk (size : Nat) (m : Memory) : Prop where
  wf    : m.wf
  below : m.below size

/-- A word without bits outside a mask. -/
def Within (mask w : Word) : Prop := w &&& ~~~mask = 0

/-- A palette whose entries have no top byte (10_state.md R31). -/
def PaletteOk (p : Vector Word 32) : Prop := ∀ i : Fin 32, Within paletteMask p[i]

/-- At most one bit of FAULT is set (60_exceptions.md R284). -/
def OneFault (q : FaultReg) : Prop := bit q.lifecycle + bit q.pitch + bit q.lutUnbuilt ≤ 1

/-- The clauses of `Inv` about the plugin lifecycle: STATUS with the geometry, the CLIP registers and
the tables that go with it. -/
structure PluginInv (s : State) : Prop where
  inactive : s.status.active = false →
    s.status.filter = .direct ∧ s.surface = ⟨0, 0, 0⟩ ∧ s.clip = .zero
  latched  : s.status.active = true → Latched s
  lutValid : s.status.lutValid = true ↔ s.status.active = true ∧ s.status.filter = .ctm644
  tables   : s.status.lutValid = true → TablesBuilt s
  preset   : s.status.lutValid = false → s.status.preset = .full

/-- `Inv` without the bound on the host's index: what a command or a host action keeps before `cp`
advances. -/
structure BlockInv (s : State) : Prop where
  src    : MemoryOk s.params.srcMemBytes s.src
  dst    : MemoryOk s.params.dstMemBytes s.dst
  cfg    : Within cfgMask s.operand.cfg
  palIn  : PaletteOk s.palIn
  pal    : PaletteOk s.pal
  fault  : OneFault s.fault
  plugin : PluginInv s

/-- The invariant is the invariant of the block and the bound on the host's index. -/
theorem inv_iff {s : State} : Inv s ↔ BlockInv s ∧ s.host.cp ≤ s.host.program.length := by
  constructor
  · intro h
    exact ⟨⟨⟨h.srcWf, h.srcIn⟩, ⟨h.dstWf, h.dstIn⟩, h.cfg, h.palIn, h.pal, h.oneFault,
      ⟨h.inactive, h.latched, h.lutValid, h.tables, h.preset⟩⟩, h.cp⟩
  · rintro ⟨⟨⟨srcWf, srcIn⟩, ⟨dstWf, dstIn⟩, cfg, palIn, pal, fault, plugin⟩, cp⟩
    obtain ⟨inactive, latched, lutValid, tables, preset⟩ := plugin
    exact ⟨srcWf, dstWf, srcIn, dstIn, cfg, palIn, pal, fault, inactive, latched, lutValid, tables,
      preset, cp⟩

/-! ## Memories -/

theorem MemoryOk.fresh (size n : Nat) : MemoryOk size (Memory.fresh n) :=
  ⟨Memory.wf_fresh n, by simp [Memory.below]⟩

theorem MemoryOk.write8 {size a : Nat} {m : Memory} (h : MemoryOk size m) (ha : a < size) (v : Byte) :
    MemoryOk size (m.write8 a v) :=
  ⟨Memory.wf_write8 h.wf a v, Memory.below_write8 h.below ha v⟩

theorem MemoryOk.write16 {size a : Nat} {m : Memory} (h : MemoryOk size m) (ha : a + 2 ≤ size)
    (v : Pixel) : MemoryOk size (m.write16 a v) :=
  ⟨Memory.wf_write16 h.wf a v, Memory.below_write16 h.below ha v⟩

/-- Of a rectangle's pixels the last one has the highest address. -/
theorem pixelAddr_le_last {pitch x y w h X Y : Nat} (hX : X < w) (hY : Y < h) :
    pixelAddr pitch (x + X) (y + Y) ≤ pixelAddr pitch (x + w - 1) (y + h - 1) := by
  have hrow : (y + Y) * pitch ≤ (y + h - 1) * pitch := Nat.mul_le_mul_right pitch (by omega)
  simp only [pixelAddr]
  omega

/-- The pixels of a rectangle that fits lie inside the memory (20_memory.md R72). -/
theorem pixel_in_range_of_rectFits {pitch size x y w h X Y : Nat}
    (hr : rectFits pitch size x y w h = true) (hX : X < w) (hY : Y < h) :
    pixelAddr pitch (x + X) (y + Y) + 2 ≤ size := by
  have hle := pixelAddr_le_last (pitch := pitch) (x := x) (y := y) hX hY
  rcases (rectFits_iff ..).1 hr with hw | hh | hlast <;> omega

/-- A FLIP that passed its range test leaves DST in canonical form and in range. -/
theorem MemoryOk.flipDst {s : State} {c : Clip} (h : MemoryOk s.params.dstMemBytes s.dst)
    (hr : flipInRange s c = true) : MemoryOk s.params.dstMemBytes (flipDst s c) := by
  obtain ⟨_, hdst, _, _⟩ := (flipInRange_iff s c).1 hr
  exact storeImage_keeps (MemoryOk s.params.dstMemBytes) h fun _ X Y hX hY hm =>
    hm.write16 (pixel_in_range_of_rectFits hdst hX hY) _

/-! ## Masked words and FAULT -/

theorem Within.zero (mask : Word) : Within mask 0 := by simp [Within]

theorem Within.and_mask (mask w : Word) : Within mask (w &&& mask) := by
  simp [Within, BitVec.and_assoc]

theorem Within.paletteEntry (v : Word) : Within paletteMask (paletteEntry v) :=
  Within.and_mask paletteMask v

theorem PaletteOk.zero : PaletteOk (Vector.replicate 32 0) := fun i => by
  simpa using Within.zero paletteMask

theorem PaletteOk.set {p : Vector Word 32} (h : PaletteOk p) (i : Fin 32) (v : Word) :
    PaletteOk (p.set i (paletteEntry v)) := by
  intro j
  by_cases hij : i.val = j.val
  · simpa [hij] using Within.paletteEntry v
  · simpa [hij] using h j

theorem PaletteOk.map (p : Vector Word 32) : PaletteOk (p.map paletteEntry) := fun i => by
  simpa using Within.paletteEntry p[i]

/-- A block that is not faulted has no bit of FAULT set, so a fault sets the only one. -/
theorem OneFault.set {s : State} (hq : s.faulted = false) (c : FaultCause) :
    OneFault (s.fault.set c) := by
  obtain ⟨⟨hlif, hpit⟩, hlut⟩ : (s.fault.lifecycle = false ∧ s.fault.pitch = false) ∧
      s.fault.lutUnbuilt = false := by simpa [State.faulted, FaultReg.any] using hq
  cases c <;> simp [OneFault, FaultReg.set, hlif, hpit, hlut, bit]

/-! ## The plugin -/

theorem flipClip_congr {s t : State} (ho : t.operand = s.operand) (hs : t.surface = s.surface) :
    flipClip t = flipClip s := by
  simp only [flipClip, ho, hs]

/-- The latched geometry rests on the filter, the operands, SURF and the parameters; CLIP may take the
rectangles of a FLIP. -/
theorem Latched.congr {s t : State} (h : Latched s) (hf : t.status.filter = s.status.filter)
    (ho : t.operand = s.operand) (hs : t.surface = s.surface) (hp : t.params = s.params)
    (hc : t.clip = s.clip ∨ t.clip = (flipClip s).regs) : Latched t := by
  have hclip : t.clip = .zero ∨ t.clip = (flipClip s).regs := hc.elim (fun e => e ▸ h.clip) .inr
  obtain ⟨mult, surfW, surfHLe, surfH, width, height, even, srcPitch, dstPitch, srcFits, dstFits, _⟩ := h
  constructor <;> simp only [hf, ho, hs, hp, flipClip_congr ho hs] <;> assumption

theorem TablesBuilt.congr {s t : State} (h : TablesBuilt s) (hst : t.status = s.status)
    (ho : t.operand = s.operand) (hl : t.luma = s.luma) (htr : t.triad = s.triad)
    (hp : t.params = s.params) : TablesBuilt t := by
  obtain ⟨preset, luma, triad⟩ := h
  constructor <;> simp only [State.fmt, hst, ho, hl, htr, hp] <;> assumption

/-- What leaves STATUS, the operands, SURF, the tables and the parameters, and CLIP but for a FLIP's
rectangles, keeps the plugin's clauses. -/
theorem PluginInv.congr {s t : State} (h : PluginInv s)
    (hc : t.clip = s.clip ∨ (s.status.active = true ∧ t.clip = (flipClip s).regs))
    (hst : t.status = s.status := by rfl) (ho : t.operand = s.operand := by rfl)
    (hs : t.surface = s.surface := by rfl) (hl : t.luma = s.luma := by rfl)
    (htr : t.triad = s.triad := by rfl) (hp : t.params = s.params := by rfl) : PluginInv t where
  inactive ha := by
    rw [hst] at ha
    have hclip : t.clip = s.clip := hc.resolve_right (by simp [ha])
    rw [hst, hs, hclip]
    exact h.inactive ha
  latched ha := (h.latched (hst ▸ ha)).congr (by rw [hst]) ho hs hp (hc.imp_right And.right)
  lutValid := by rw [hst]; exact h.lutValid
  tables hv := (h.tables (hst ▸ hv)).congr hst ho hl htr hp
  preset hv := by rw [hst] at hv ⊢; exact h.preset hv

/-- The plugin's clauses of a block that no plugin is active in (46_plugin_commands.md R263). -/
theorem PluginInv.of_inactive {s : State} (ha : s.status.active = false)
    (hf : s.status.filter = .direct) (hs : s.surface = ⟨0, 0, 0⟩) (hc : s.clip = .zero)
    (hv : s.status.lutValid = false) (hp : s.status.preset = .full) : PluginInv s where
  inactive _ := ⟨hf, hs, hc⟩
  latched h := by simp [ha] at h
  lutValid := by simp [ha, hv]
  tables h := by simp [hv] at h
  preset _ := hp

/-- While no plugin is active the tables are not valid. -/
theorem PluginInv.lutValid_of_inactive {s : State} (h : PluginInv s) (ha : s.status.active = false) :
    s.status.lutValid = false := by
  rw [← Bool.not_eq_true, h.lutValid]
  simp [ha]

/-- The operand registers are free while no plugin is active (10_state.md R42). -/
theorem PluginInv.withOperand {s : State} (h : PluginInv s) (ha : s.status.active = false)
    (o : OperandRegs) : PluginInv { s with operand := o } := by
  obtain ⟨hf, hs, hc⟩ := h.inactive ha
  have hv := h.lutValid_of_inactive ha
  exact .of_inactive ha hf hs hc hv (h.preset hv)

/-- The tests of INIT are what the activated block latches (46_plugin_commands.md R242, R245 to
R247). -/
theorem latched_activate {f : Filter} {s : State} (hg : geometryUnsupported s = false)
    (hp : pitchTooShort f s = false) (ho : overCapacity f s = false) (hc : s.clip = .zero) :
    Latched (activate f s) := by
  rw [← Bool.not_eq_true, geometryUnsupported_iff] at hg
  rw [← Bool.not_eq_true, pitchTooShort_iff] at hp
  rw [← Bool.not_eq_true, overCapacity_iff] at ho
  have hdp := s.operand.dstPitch.isLt
  have hassoc := Nat.mul_assoc 2 s.operand.srcW.toNat (multiplier f)
  have hH : s.operand.srcH.toNat * multiplier f < 2 ^ 32 →
      (surfaceHeight s f).toNat = s.operand.srcH.toNat * multiplier f := fun hlt => by
    rw [surfaceHeight, if_pos hlt, BitVec.toNat_ofNat, Nat.mod_eq_of_lt hlt]
  constructor
  case mult => rfl
  case surfW =>
    simp only [activate_surface, activate_operand, activate_status, BitVec.toNat_ofNat]
    exact Nat.mod_eq_of_lt (by omega)
  case surfHLe =>
    show (surfaceHeight s f).toNat ≤ s.operand.srcH.toNat * multiplier f
    have hreg := (surfaceHeight s f).isLt
    by_cases hlt : s.operand.srcH.toNat * multiplier f < 2 ^ 32
    · exact (hH hlt).le
    · omega
  case surfH => exact hH
  case clip => exact .inl hc
  all_goals simp only [activate_operand, activate_status, activate_params]; omega

/-- A successful INIT establishes the plugin's clauses: the tables are valid exactly for CTM644
(46_plugin_commands.md R251). -/
theorem pluginInv_initSuccess {f : Filter} {s : State} (h : PluginInv s)
    (ha : s.status.active = false) (hl : Latched (activate f s)) : PluginInv (initSuccess f s) := by
  have hv := h.lutValid_of_inactive ha
  by_cases hf : f = .ctm644
  · subst hf
    obtain ⟨hst, hluma, htriad⟩ := buildTables_of_invalid (s := activate .ctm644 s) hv
    have hfmt : (buildTables (activate .ctm644 s)).fmt = (activate .ctm644 s).fmt := by
      simp [State.fmt]
    rw [initSuccess, if_pos rfl]
    exact {
      inactive := fun hi => by simp [hst] at hi
      latched := fun _ => hl.congr (by simp [hst]) (by simp) (by simp) (by simp) (.inl (by simp))
      lutValid := by simp [hst]
      tables := fun _ => ⟨by simp [hst], by rw [hluma, hfmt], by simp [htriad, hfmt, hst]⟩
      preset := fun hi => by simp [hst] at hi }
  · rw [initSuccess, if_neg hf]
    exact {
      inactive := fun hi => by simp at hi
      latched := fun _ => hl
      lutValid := by simp [hv, hf]
      tables := fun hi => by simp [hv] at hi
      preset := fun _ => h.preset hv }

/-- CLOSE leaves a block no plugin is active in (46_plugin_commands.md R263). -/
theorem pluginInv_closeBody {s : State} (h : PluginInv s) : PluginInv (closeBody s) := by
  unfold closeBody
  split
  · exact .of_inactive rfl rfl rfl rfl rfl rfl
  · next hf =>
    have hv : s.status.lutValid = false := by
      rw [← Bool.not_eq_true, h.lutValid]
      exact fun hact => hf hact.2
    exact .of_inactive rfl rfl rfl rfl hv (h.preset hv)

/-! ## Commands, host actions and the step -/

/-- What leaves the block's registers but RESULT, its tables and its memories keeps the block's
invariant. -/
theorem BlockInv.of_result {s : State} (h : BlockInv s) (r : ResultCode) (tr : List Event)
    (ag : HostAgent) (n : Nat) :
    BlockInv { s with result := r, trace := tr, host := ag, draws := n } where
  src := h.src
  dst := h.dst
  cfg := h.cfg
  palIn := h.palIn
  pal := h.pal
  fault := h.fault
  plugin := h.plugin.congr (.inl rfl)

/-- Every command keeps the block's invariant. -/
theorem CommandEffect.blockInv {s t : State} (e : CommandEffect s t) (h : BlockInv s) :
    BlockInv t := by
  cases e with
  | answered r => exact h.of_result r _ _ _
  | raised c hq => exact { h with fault := OneFault.set hq c, plugin := h.plugin.congr (.inl rfl) }
  | initFailed f r => exact h.of_result r _ _ _
  | initialised f ha hg hp ho =>
    obtain ⟨_, _, hclip⟩ := h.plugin.inactive ha
    have hasked : PluginInv (askCreateBuffer f s) := h.plugin.congr (.inl rfl)
    exact {
      src := by simpa using MemoryOk.fresh _ _
      dst := by simpa using MemoryOk.fresh _ _
      cfg := by simpa using h.cfg
      palIn := by simpa using h.palIn
      pal := by simpa using h.pal
      fault := by simpa using h.fault
      plugin := pluginInv_initSuccess hasked ha
        (latched_activate (s := askCreateBuffer f s) hg hp ho hclip) }
  | paletteSet => exact { h with pal := PaletteOk.map _, plugin := h.plugin.congr (.inl rfl) }
  | flipped ha hr =>
    exact { h with dst := h.dst.flipDst hr, plugin := h.plugin.congr (.inr ⟨ha, rfl⟩) }
  | closed ha =>
    exact {
      src := by simpa using MemoryOk.fresh _ _
      dst := by simpa using MemoryOk.fresh _ _
      cfg := by simpa using h.cfg
      palIn := by simpa using h.palIn
      pal := by simpa using h.pal
      fault := by simpa using h.fault
      plugin := pluginInv_closeBody h.plugin }

/-- Every register write that is no command keeps the block's invariant. -/
theorem blockInv_offsetWrite {s : State} (h : BlockInv s) (off : Nat) (v : Word) :
    BlockInv (offsetWrite s off v) := by
  rcases offsetWrite_cases s off v with e | ⟨ha, o, ho, e⟩ | ⟨i, e⟩ <;> rw [e]
  · exact h
  · have hcfg : Within cfgMask o.cfg := by
      rcases ho with ho | ho <;> rw [ho]
      · exact h.cfg
      · exact Within.and_mask cfgMask v
    exact { h with cfg := hcfg, plugin := h.plugin.withOperand ha o }
  · exact { h with palIn := h.palIn.set i v, plugin := h.plugin.congr (.inl rfl) }

/-- Reset establishes the block's invariant from any state (70_reset_and_hazards.md R310). -/
theorem blockInv_platformReset (s : State) : BlockInv (platformReset s) where
  src := MemoryOk.fresh _ _
  dst := MemoryOk.fresh _ _
  cfg := Within.zero cfgMask
  palIn := PaletteOk.zero
  pal := PaletteOk.zero
  fault := by simp [OneFault, bit]
  plugin := .of_inactive rfl rfl rfl rfl rfl rfl

/-- Every host action other than a command keeps the block's invariant. -/
theorem blockInv_hostAction {a : HostAction} {s t : State} (h : BlockInv s)
    (ht : hostAction a s = .next t) : BlockInv t := by
  rcases hostAction_next ht with ⟨off, v, _, rfl⟩ | ⟨v, rfl⟩ | ⟨b, v, _, hb, rfl⟩ |
    ⟨b, v, _, hb, rfl⟩ | ⟨ans, _, rfl⟩ | ⟨_, rfl⟩
  · exact blockInv_offsetWrite h off v
  · exact h.of_result _ _ _ _
  · exact { h with src := h.src.write8 hb v, plugin := h.plugin.congr (.inl rfl) }
  · exact { h with src := h.src.write16 hb v, plugin := h.plugin.congr (.inl rfl) }
  · exact h.of_result _ _ _ _
  · exact blockInv_platformReset s

/-- An action is fetched only where the program has one (10_state.md R40). -/
theorem cp_lt_of_fetchAction {s : State} {a : HostAction} (h : fetchAction s = some a) :
    s.host.cp < s.host.program.length :=
  (List.getElem?_eq_some_iff.1 h).1

/-- Settles O11: every command and every other host action keeps the block's invariant, and `cp`
advances only where there was an action to fetch. -/
theorem stepKeepsInv : Obligations.StepKeepsInv := by
  intro s t hs h
  obtain ⟨hblock, _⟩ := inv_iff.1 hs
  obtain ⟨hcp, hprog, _⟩ := stepAdvancesByOne s t h
  obtain ⟨a, u, hf, rfl, hu⟩ := step_next h
  have hu : BlockInv u := by
    rcases hu with ⟨c, _, hu⟩ | ⟨_, hu⟩
    · exact (execWord_effect hu).blockInv hblock
    · exact blockInv_hostAction hblock hu
  refine inv_iff.2 ⟨hu.of_result _ _ _ _, ?_⟩
  have hlt := cp_lt_of_fetchAction hf
  rw [hcp, hprog]
  omega

end Sys2Proof.Machine
end

section
/-!
PROOF. The memories and the table spaces of 20_memory.md: where row-pitch addressing puts the rectangles
of a FLIP, what a host write of a source pixel leaves, the words TRIADMEM and LUMAMEM show, and the
commands that leave the tables alone.
-/

namespace Sys2Proof.Machine

open Sys2Proof

/-! ## Rectangles inside their memories -/

@[simp] theorem multX_multWord (f : Filter) : multX (multWord f) = multiplier f := by
  cases f <;> rfl

@[simp] theorem multY_multWord (f : Filter) : multY (multWord f) = multiplier f := by
  cases f <;> rfl

theorem multiplier_pos (f : Filter) : 0 < multiplier f := by cases f <;> decide

/-- Whatever the surface size, ResolveAxis stays inside the source and the surface, and stores `m`
pixels for each source pixel (47_clip_resolver.md R271, R272; log 21). -/
theorem resolveAxis_within {n m sz : Nat} (hm : 0 < m) :
    (resolveAxis n m sz).srcOff + (resolveAxis n m sz).srcLen ≤ n ∧
    (resolveAxis n m sz).dstOff + (resolveAxis n m sz).srcLen * m ≤ sz := by
  unfold resolveAxis
  by_cases hfit : n * m ≤ sz
  · simp only [hfit, if_true]
    omega
  · simp only [hfit, if_false]
    generalize hcut : (n * m - sz + m - 1) / m = cut
    have hle : cut ≤ n := by
      rw [← hcut, Nat.div_le_iff_le_mul hm]
      omega
    have hge : n * m - sz ≤ cut * m := by
      have hlt := Nat.lt_div_mul_add (a := n * m - sz + m - 1) hm
      rw [hcut] at hlt
      omega
    have hlen : (n - cut) * m = n * m - cut * m := Nat.sub_mul ..
    omega

/-- A rectangle inside a `W` by `H` surface fits the memory that holds the surface's rows
(20_memory.md R63, R72). -/
theorem rectFits_of_within {pitch size x y w h W H : Nat} (hw : x + w ≤ W) (hh : y + h ≤ H)
    (hpitch : 2 * W ≤ pitch) (hsize : pitch * H ≤ size) : rectFits pitch size x y w h = true := by
  rw [rectFits_iff]
  rcases Nat.eq_zero_or_pos w with hw0 | hw0
  · exact .inl hw0
  rcases Nat.eq_zero_or_pos h with hh0 | hh0
  · exact .inr (.inl hh0)
  have hlast : pixelAddr pitch (x + w - 1) (y + h - 1) + 2 ≤ size := calc
    (y + h - 1) * pitch + 2 * (x + w - 1) + 2 ≤ (y + h - 1) * pitch + pitch := by omega
    _ = pitch * (y + h - 1 + 1) := by ring
    _ ≤ pitch * H := Nat.mul_le_mul_left pitch (by omega)
    _ ≤ size := hsize
  exact .inr (.inr hlast)

/-- The geometry an INIT latched keeps every FLIP inside SRC and DST (20_memory.md R72). -/
theorem Latched.flipInRange {s : State} (h : Latched s) : flipInRange s (flipClip s) = true := by
  have hpos := multiplier_pos s.status.filter
  obtain ⟨hsrcX, hdstX⟩ := resolveAxis_within (n := s.operand.srcW.toNat)
    (sz := s.surface.surfW.toNat) hpos
  obtain ⟨hsrcY, hdstY⟩ := resolveAxis_within (n := s.operand.srcH.toNat)
    (sz := s.surface.surfH.toNat) hpos
  rw [flipInRange_iff, imageWidth, imageHeight, flipClip, h.mult, multX_multWord, multY_multWord]
  refine ⟨rectFits_of_within hsrcX hsrcY h.srcPitch h.srcFits,
    rectFits_of_within hdstX (hdstY.trans h.surfHLe) ?_ ?_, le_rfl, le_rfl⟩
  · rw [h.surfW, ← Nat.mul_assoc]
    exact h.dstPitch
  · rw [← Nat.mul_assoc]
    exact h.dstFits

/-- In a state of the invariant FLIP always finds its tables and its memories. -/
theorem Inv.exec_flip {s : State} (h : Inv s) (hq : s.faulted = false)
    (ha : s.status.active = true) : exec .flip s = .next (flipEffect s (flipClip s)) := by
  have hgate : exec .flip s = flipBody s := lifecycleGate_pass hq ha
  rw [hgate]
  rcases flipBody_cases s with ⟨hf, hv, _⟩ | ⟨_, _, e⟩ | ⟨hr, _⟩
  · simp [h.lutValid.2 ⟨ha, hf⟩] at hv
  · exact e
  · simp [(h.latched ha).flipInRange] at hr

/-- Settles O26: the latched geometry bounds both rectangles, so FLIP reaches its effect, which leaves
FAULT. -/
theorem flipStaysInRange : Obligations.FlipStaysInRange :=
  fun _ h hq ha => ⟨_, h.exec_flip hq ha, hq, rfl⟩

/-! ## A host write of SRC -/

/-- A host write of SRC while a plugin is active, aligned and in range, stores. -/
theorem hostWrite_answers {s : State} {n a : Nat} {store : Memory → Memory}
    (ha : s.status.active = true) (hal : a % n = 0) (hr : a + n ≤ s.params.srcMemBytes) :
    hostWrite s n a store = .next { s with src := store s.src } := by
  simp [hostWrite, ha, hal, hr]

/-- A step at a write of a source pixel (30_encoding.md R96). -/
theorem step_of_ws {s : State} {x y : Nat} {v : Pixel} (h : fetchAction s = some (.ws x y v))
    (ha : s.status.active = true) (hal : s.operand.srcPitch.toNat % 2 = 0)
    (hr : pixelAddr s.operand.srcPitch.toNat x y + 2 ≤ s.params.srcMemBytes) :
    step s = .next (advance { s with
      src := s.src.write16 (pixelAddr s.operand.srcPitch.toNat x y) v }) := by
  have heven : pixelAddr s.operand.srcPitch.toNat x y % 2 = 0 := by
    rw [pixelAddr, Nat.add_mod, Nat.mul_mod, hal]
    simp
  rw [step_of_hostAction h rfl, hostAction, hostWrite_answers ha heven hr, afterAction]

@[simp] theorem srcByte_advance (s : State) (a : Nat) : (advance s).srcByte a = s.srcByte a := rfl

/-- What SRC reads as after a 16-bit write (20_memory.md R61, R62). -/
@[simp] theorem srcByte_write16 (s : State) (a b : Nat) (v : Pixel) :
    State.srcByte { s with src := s.src.write16 b v } a =
      if a = b + 1 then highByte v else if a = b then lowByte v else s.srcByte a := by
  simp only [State.srcByte, Memory.byte?_write16, Memory.epoch_write16]
  split
  · rfl
  · split <;> rfl

theorem lowByte_toNat (v : Pixel) : (lowByte v).toNat = v.toNat % 256 := by
  simp [lowByte]

theorem highByte_toNat (v : Pixel) : (highByte v).toNat = v.toNat / 256 := by
  have hv := v.isLt
  rw [highByte, BitVec.extractLsb'_toNat, Nat.shiftRight_eq_div_pow]
  omega

/-- Settles O54: the step stores the two bytes of the pixel at its address, and a byte of SRC reads as
what was stored there last. -/
theorem sourceWriteReadsBack : Obligations.SourceWriteReadsBack := by
  intro s x y v hf ha hal hr
  refine ⟨_, step_of_ws hf ha hal hr, ?_, ?_, ?_, fun a hlo hhi => ?_, rfl⟩
  · simp [srcPixel, State.srcHalf]
  · simp [pixelAddr, lowByte_toNat]
  · simp [pixelAddr, highByte_toNat]
  · simp [pixelAddr, hlo, hhi]

/-! ## The table spaces -/

/-- The code k of a triad channel (10_state.md R33). -/
def channelCode : Channel → Nat
  | .red => 0
  | .green => 1
  | .blue => 2

/-- The code p of a brightness phase (10_state.md R33). -/
def phaseCode : Phase → Nat
  | .dim => 0
  | .bright => 1

@[simp] theorem channelOfCode_channelCode (k : Channel) : channelOfCode (channelCode k) = k := by
  cases k <;> rfl

@[simp] theorem phaseOfCode_phaseCode (p : Phase) : phaseOfCode (phaseCode p) = p := by
  cases p <;> rfl

theorem channelCode_le_two (k : Channel) : channelCode k ≤ 2 := by cases k <;> decide

theorem phaseCode_le_one (p : Phase) : phaseCode p ≤ 1 := by cases p <;> decide

/-- The number of the word of TRIADMEM that shows `TRIAD[k][p][q]` (20_memory.md R60). -/
def triadIndex (k : Channel) (p : Phase) (q : Pixel) : Nat :=
  (channelCode k * 2 + phaseCode p) * 65536 + q.toNat

theorem triadIndex_lt (k : Channel) (p : Phase) (q : Pixel) : triadIndex k p q < 393216 := by
  have hk := channelCode_le_two k
  have hp := phaseCode_le_one p
  have hq := q.isLt
  rw [triadIndex]
  omega

/-- The three digits of a word's number are the indices of its entry (20_memory.md R60). -/
theorem triadWord_triadIndex (s : State) (k : Channel) (p : Phase) (q : Pixel) :
    triadWord s (triadIndex k p q) = s.triad.read k p q := by
  have hp := phaseCode_le_one p
  have hq := q.isLt
  have hchannel : triadIndex k p q / 131072 = channelCode k := by rw [triadIndex]; omega
  have hphase : triadIndex k p q / 65536 % 2 = phaseCode p := by rw [triadIndex]; omega
  have hpixel : BitVec.ofNat 16 (triadIndex k p q) = q := by
    apply BitVec.eq_of_toNat_eq
    rw [BitVec.toNat_ofNat, triadIndex]
    omega
  rw [triadWord, hchannel, hphase, hpixel, channelOfCode_channelCode, phaseOfCode_phaseCode]

/-- A 16-bit read of TRIADMEM puts the two bytes of a word together again (20_memory.md R61). -/
theorem spaceRead_triadMem_half (s : State) (n : Nat) :
    spaceRead s .triadMem .half (2 * n) = (triadWord s n).setWidth 32 := by
  have hodd : (2 * n + 1) / 2 = n := by omega
  simp [spaceRead, spaceByte, hodd]

/-- A step at a 16-bit read of TRIADMEM. -/
theorem step_reads_triadMem {s : State} {k : Channel} {p : Phase} {q : Pixel}
    (h : fetchAction s = some (.read .triadMem .half (2 * triadIndex k p q))) :
    step s = .next (advance (hostReceives s ((s.triad.read k p q).setWidth 32))) := by
  have hlt := triadIndex_lt k p q
  have hrange : 2 * triadIndex k p q + 2 ≤ 786432 := by omega
  rw [step_reads_space h rfl rfl (by simp [HostAction.wellFormed]) rfl hrange,
    spaceRead_triadMem_half, triadWord_triadIndex]

/-- A step at a read of LUMAMEM, whose byte `q` is `LUMA[q]` (20_memory.md R60). -/
theorem step_reads_lumaMem {s : State} {q : Pixel}
    (h : fetchAction s = some (.read .lumaMem .byte q.toNat)) :
    step s = .next (advance (hostReceives s ((s.luma.read q).setWidth 32))) := by
  have hrange : q.toNat + 1 ≤ 65536 := q.isLt
  rw [step_reads_space h rfl rfl rfl rfl hrange]
  simp [spaceRead, spaceByte]

/-- Settles O55: the address of a word is twice `triadIndex` of its entry. -/
theorem tableSpaces : Obligations.TableSpaces :=
  fun _ _ _ _ => ⟨step_reads_triadMem, step_reads_lumaMem⟩

/-! ## The commands that leave the tables -/

/-- Both tables are what they were. -/
def SameTables (s t : State) : Prop := t.luma = s.luma ∧ t.triad = s.triad

/-- An INIT of any filter but CTM644 builds no table (46_plugin_commands.md R251). -/
theorem initBody_sameTables {f : Filter} (hf : f ≠ .ctm644) (s : State) :
    SameTables s (initBody f s) := by
  rcases initBody_cases f s with ⟨_, e⟩ | ⟨_, _, e⟩ | ⟨_, _, _, e⟩ | ⟨_, _, _, h⟩
  · rw [e]; exact ⟨rfl, rfl⟩
  · rw [e]; exact ⟨rfl, rfl⟩
  · rw [e]; exact ⟨rfl, rfl⟩
  · rcases h with ⟨_, e⟩ | ⟨_, e⟩ | ⟨_, e⟩ <;> rw [e]
    · exact ⟨rfl, rfl⟩
    · exact ⟨rfl, rfl⟩
    · rw [initSuccess, if_neg hf]
      exact ⟨rfl, rfl⟩

/-- FLIP reads the tables and writes none (20_memory.md R70). -/
theorem flipBody_sameTables {s t : State} (h : flipBody s = .next t) : SameTables s t := by
  rcases flipBody_cases s with ⟨_, _, e⟩ | ⟨_, _, e⟩ | ⟨_, e, _⟩ <;> rw [e] at h <;> cases h
  · exact ⟨rfl, rfl⟩
  · exact ⟨rfl, rfl⟩

/-- A command other than INIT.CTM644 and CLOSE leaves the tables (20_memory.md R70). -/
theorem exec_sameTables {i : Instr} {s t : State} (h : exec i s = .next t) (hi : i ≠ .initCtm644)
    (hc : i ≠ .close) : SameTables s t := by
  rcases exec_next h with ⟨_, rfl⟩ | ⟨_, rfl⟩ | ⟨_, _, f, rfl, rfl⟩ | ⟨_, _, _, rfl⟩ |
    ⟨_, _, _, h⟩ | ⟨_, _, rfl, _⟩
  · exact ⟨rfl, rfl⟩
  · exact ⟨rfl, rfl⟩
  · exact initBody_sameTables (fun hf => hi (congrArg initOf hf)) s
  · exact ⟨rfl, rfl⟩
  · exact flipBody_sameTables h
  · exact absurd rfl hc

/-- Settles O58: of the command words left none builds or releases the tables, and of the host's other
actions only a reset touches them. -/
theorem tablesChangeAtActivation : Obligations.TablesChangeAtActivation := by
  intro s t h hreset hcmd
  obtain ⟨a, u, hf, rfl, hu⟩ := step_next h
  have hsame : SameTables s u := by
    rcases hu with ⟨c, rfl, hu⟩ | ⟨_, hu⟩
    · rcases execWord_next hu with ⟨i, hi, hu⟩ | ⟨_, rfl⟩ | ⟨_, rfl⟩
      · obtain ⟨hinit, hclose⟩ := hcmd c i hf hi
        exact exec_sameTables hu hinit hclose
      · exact ⟨rfl, rfl⟩
      · exact ⟨rfl, rfl⟩
    · obtain ⟨o, p, m, ans, rd, rfl⟩ := hostAction_frame hu fun e => hreset (e ▸ hf)
      exact ⟨rfl, rfl⟩
  exact hsame

end Sys2Proof.Machine
end

section
/-!
PROOF. The command words (30_encoding.md R90 to R94): the fields of a word, which words decode to
which command, and from this that decode and encode are inverse to each other.
-/

namespace Sys2Proof.Machine

open Sys2Proof

/-! The fields of format C (30_encoding.md R90). -/

theorem toNat_extractLsb'_op (c : Word) : (c.extractLsb' 0 8).toNat = opField c := by
  simp [opField]

theorem toNat_extractLsb'_arg (c : Word) : (c.extractLsb' 8 8).toNat = argField c := by
  simp [argField, Nat.shiftRight_eq_div_pow]

theorem toNat_extractLsb'_zero (c : Word) : (c.extractLsb' 16 16).toNat = zeroField c := by
  have hfit : zeroField c < 65536 := by have := c.isLt; unfold zeroField; omega
  rw [BitVec.extractLsb'_toNat, Nat.shiftRight_eq_div_pow]
  exact Nat.mod_eq_of_lt hfit

/-- A word whose ZERO is 0 is made of its OP and its ARG. -/
theorem formatC_fields {c : Word} (hz : zeroField c = 0) :
    formatC (opField c) (argField c) = c := by
  apply BitVec.eq_of_toNat_eq
  simp only [formatC, BitVec.toNat_ofNat]
  unfold zeroField at hz
  unfold opField argField
  omega

/-! The filter identifiers in ARG (30_encoding.md R92). -/

theorem Filter.ofId_eq_some_iff {n : Nat} {f : Filter} : Filter.ofId n = some f ↔ n = f.id :=
  ⟨fun h => (Filter.id_of_ofId h).symm, fun h => h ▸ Filter.ofId_id f⟩

theorem Filter.exists_id_eq_iff {n : Nat} : (∃ f : Filter, n = f.id) ↔ n < 10 := by
  constructor
  · rintro ⟨f, rfl⟩
    exact Nat.lt_succ_of_le (Filter.id_le_nine f)
  · intro h
    obtain ⟨f, hf⟩ : ∃ f, Filter.ofId n = some f := by
      interval_cases n <;> exact ⟨_, rfl⟩
    exact ⟨f, Filter.ofId_eq_some_iff.1 hf⟩

/-! Which words decode (30_encoding.md R91). -/

theorem noOperand_eq_ok_iff {arg : Nat} {i j : Instr} :
    noOperand arg j = .ok i ↔ arg = 0 ∧ i = j := by
  unfold noOperand
  split <;> simp_all [eq_comm]

/-- The rows of the opcode table (30_encoding.md R93), by the fields of a word: OP `op` and ARG
`arg` are those of the command `i`. -/
def TableRow (op arg : Nat) (i : Instr) : Prop :=
  (op = 1 ∧ ∃ f, arg = f.id ∧ i = initOf f) ∨ (op = 2 ∧ arg = 0 ∧ i = .setPal) ∨
  (op = 3 ∧ arg = 0 ∧ i = .flip) ∨ (op = 4 ∧ arg = 0 ∧ i = .close)

/-- `decode` read off the table: every later fact about which words decode comes from here. -/
theorem decode_eq_ok_iff {c : Word} {i : Instr} :
    decode c = .ok i ↔ zeroField c = 0 ∧ TableRow (opField c) (argField c) i := by
  unfold decode TableRow
  split
  case isTrue hz => simp [hz]
  case isFalse hz =>
    rw [not_not] at hz
    split
    case h_1 hop =>
      simp only [← Filter.ofId_eq_some_iff]
      split
      case h_1 f hf => simp [hz, hop, hf, eq_comm]
      case h_2 hnone => simp [hz, hop, hnone]
    case h_2 hop => simp [hz, hop, noOperand_eq_ok_iff]
    case h_3 hop => simp [hz, hop, noOperand_eq_ok_iff]
    case h_4 hop => simp [hz, hop, noOperand_eq_ok_iff]
    case h_5 h1 h2 h3 h4 => simp [hz, mt h1, mt h2, mt h3, mt h4]

/-- OP is a command's, and ARG is a filter for INIT and 0 for the other commands. -/
theorem exists_tableRow_iff {op arg : Nat} :
    (∃ i, TableRow op arg i) ↔ op = 1 ∧ arg < 10 ∨ (op = 2 ∨ op = 3 ∨ op = 4) ∧ arg = 0 := by
  simp [TableRow, exists_or, ← Filter.exists_id_eq_iff, or_and_right]

theorem exists_decode_eq_ok_iff {c : Word} :
    (∃ i, decode c = .ok i) ↔ zeroField c = 0 ∧
      (opField c = 1 ∧ argField c < 10 ∨
        (opField c = 2 ∨ opField c = 3 ∨ opField c = 4) ∧ argField c = 0) := by
  simp only [decode_eq_ok_iff, exists_and_left, exists_tableRow_iff]

theorem exists_decode_eq_error_iff {c : Word} :
    (∃ e, decode c = .error e) ↔ ¬ ∃ i, decode c = .ok i := by
  cases decode c <;> simp

/-! Encoding. -/

theorem decode_encode (i : Instr) : decode (encode i) = .ok i := by
  cases i <;> rfl

theorem encode_initOf (f : Filter) : encode (initOf f) = formatC 1 f.id := by
  cases f <;> rfl

/-- The word of a command is made of the OP and the ARG of its row. -/
theorem encode_of_tableRow {op arg : Nat} {i : Instr} (h : TableRow op arg i) :
    encode i = formatC op arg := by
  rcases h with ⟨rfl, f, rfl, rfl⟩ | ⟨rfl, rfl, rfl⟩ | ⟨rfl, rfl, rfl⟩ | ⟨rfl, rfl, rfl⟩
  · exact encode_initOf f
  · rfl
  · rfl
  · rfl

theorem encode_of_decode {c : Word} {i : Instr} (h : decode c = .ok i) : encode i = c := by
  obtain ⟨hz, hrow⟩ := decode_eq_ok_iff.1 h
  rw [encode_of_tableRow hrow, formatC_fields hz]

/-! ## The statements about the encoding -/

/-- Settles O2: a word that decodes is made of the OP and the ARG of its command's row, and every
command's word decodes. -/
theorem decodeIffEncode : Obligations.DecodeIffEncode :=
  fun _ i _ => ⟨encode_of_decode, fun h => h ▸ decode_encode i⟩

/-- Settles O3: the four cases of R94 are what the legal words leave. -/
theorem illegalWords : Obligations.IllegalWords := by
  intro c
  rw [exists_decode_eq_error_iff, exists_decode_eq_ok_iff, toNat_extractLsb'_op,
    toNat_extractLsb'_arg, ← BitVec.toNat_ne_iff_ne, toNat_extractLsb'_zero,
    BitVec.ofNat_eq_ofNat, BitVec.toNat_zero]
  omega

/-- Settles O1: each word of the table is the encoding of its command. -/
theorem tableWordsDecode : Obligations.TableWordsDecode :=
  ⟨decode_encode .initDirect, decode_encode .initSuperEagle, decode_encode .initScale2x,
    decode_encode .initAScale2x, decode_encode .initTv2x, decode_encode .initBilinear,
    decode_encode .initBicubic, decode_encode .initDotMatrix, decode_encode .initMonitor2x,
    decode_encode .initCtm644, decode_encode .setPal, decode_encode .flip, decode_encode .close⟩

end Sys2Proof.Machine
end

section
/-!
PROOF. The colour math of 40_color_math.md. A pixel is read as three lanes, one per channel (R121): the
words of `average2` and `average4` are sums of masked words whose lanes never meet, and the other
primitives repack channel values that fit their lanes.
-/

namespace Sys2Proof.Machine

open Sys2Proof

/-! ## Channels as lanes of a word -/

theorem fieldWidth_five_or_six (fmt : PixelFormat) (c : Channel) :
    fieldWidth fmt c = 5 ∨ fieldWidth fmt c = 6 := by
  cases fmt <;> cases c <;> decide

theorem two_le_fieldWidth (fmt : PixelFormat) (c : Channel) : 2 ≤ fieldWidth fmt c := by
  have := fieldWidth_five_or_six fmt c
  omega

theorem channelOf_eq_mod (fmt : PixelFormat) (c : Channel) (p : Pixel) :
    channelOf fmt c p = p.toNat / 2 ^ fieldShift fmt c % 2 ^ fieldWidth fmt c := by
  rw [channelOf, channelMax, Nat.and_two_pow_sub_one_eq_mod, Nat.shiftRight_eq_div_pow]

theorem channelOf_lt (fmt : PixelFormat) (c : Channel) (p : Pixel) :
    channelOf fmt c p < 2 ^ fieldWidth fmt c := by
  rw [channelOf_eq_mod]
  exact Nat.mod_lt _ (Nat.two_pow_pos _)

theorem channelOf_le_channelMax (fmt : PixelFormat) (c : Channel) (p : Pixel) :
    channelOf fmt c p ≤ channelMax fmt c :=
  Nat.le_sub_one_of_lt (channelOf_lt fmt c p)

theorem channelOf_and (fmt : PixelFormat) (c : Channel) (p q : Pixel) :
    channelOf fmt c (p &&& q) = channelOf fmt c p &&& channelOf fmt c q := by
  simp only [channelOf, BitVec.toNat_and, Nat.shiftRight_and_distrib]
  rw [Nat.and_assoc, Nat.and_assoc, Nat.and_left_comm (channelMax fmt c), Nat.and_self]

/-- No carry crosses lanes as long as every lane of the sum fits; what leaves the word at the top is
above every lane. -/
theorem channelOf_add {fmt : PixelFormat} {p q : Pixel}
    (h : ∀ k, channelOf fmt k p + channelOf fmt k q ≤ channelMax fmt k) (c : Channel) :
    channelOf fmt c (p + q) = channelOf fmt c p + channelOf fmt c q := by
  have hr := h .red
  have hg := h .green
  have hb := h .blue
  cases fmt <;> cases c <;>
    simp only [channelOf_eq_mod, channelMax, fieldShift, fieldWidth, BitVec.toNat_add] at hr hg hb ⊢ <;>
    omega

theorem channelOf_add_three {fmt : PixelFormat} {p q r : Pixel}
    (h : ∀ k, channelOf fmt k p + channelOf fmt k q + channelOf fmt k r ≤ channelMax fmt k)
    (c : Channel) :
    channelOf fmt c (p + q + r) = channelOf fmt c p + channelOf fmt c q + channelOf fmt c r := by
  have htwo : ∀ k, channelOf fmt k (p + q) = channelOf fmt k p + channelOf fmt k q :=
    channelOf_add fun k => le_trans (Nat.le_add_right _ _) (h k)
  rw [channelOf_add (fun k => htwo k ▸ h k), htwo]

theorem channelOf_add_four {fmt : PixelFormat} {p q r s : Pixel}
    (h : ∀ k, channelOf fmt k p + channelOf fmt k q + channelOf fmt k r + channelOf fmt k s
      ≤ channelMax fmt k) (c : Channel) :
    channelOf fmt c (p + q + r + s) =
      channelOf fmt c p + channelOf fmt c q + channelOf fmt c r + channelOf fmt c s := by
  have hthree : ∀ k, channelOf fmt k (p + q + r) =
      channelOf fmt k p + channelOf fmt k q + channelOf fmt k r :=
    channelOf_add_three fun k => le_trans (Nat.le_add_right _ _) (h k)
  rw [channelOf_add (fun k => hthree k ▸ h k), hthree]

/-- A mask whose lane holds `j` ones keeps `j` bits of the lane, here after a shift by `n` that brings
in no bit of the lane above. -/
theorem channelOf_shiftRight_and {fmt : PixelFormat} {c : Channel} {m : Pixel} {n j : Nat}
    (hm : channelOf fmt c m = 2 ^ j - 1) (hj : n + j ≤ fieldWidth fmt c) (p : Pixel) :
    channelOf fmt c ((p >>> n) &&& m) = channelOf fmt c p / 2 ^ n % 2 ^ j := by
  obtain ⟨i, hi⟩ := Nat.exists_eq_add_of_le hj
  have hkept : 2 ^ j ∣ 2 ^ fieldWidth fmt c := Nat.pow_dvd_pow 2 (by omega)
  rw [channelOf_and, hm, Nat.and_two_pow_sub_one_eq_mod, channelOf_eq_mod, channelOf_eq_mod,
    Nat.mod_mod_of_dvd _ hkept, BitVec.toNat_ushiftRight, Nat.shiftRight_eq_div_pow, hi, Nat.add_assoc,
    Nat.pow_add 2 n, Nat.mod_mul_right_div_self, Nat.mod_mod_of_dvd _ (Nat.pow_dvd_pow 2 (by omega)),
    Nat.div_div_eq_div_mul, Nat.div_div_eq_div_mul, Nat.mul_comm]

/-- Clearing the low `n` bits of a lane before the shift by `n` divides the lane by `2 ^ n`. -/
theorem channelOf_and_shiftRight {fmt : PixelFormat} {c : Channel} {m : Pixel} {n : Nat}
    (hm : channelOf fmt c (m >>> n) = 2 ^ (fieldWidth fmt c - n) - 1) (hn : n ≤ fieldWidth fmt c)
    (p : Pixel) : channelOf fmt c ((p &&& m) >>> n) = channelOf fmt c p / 2 ^ n := by
  have hfit : channelOf fmt c p / 2 ^ n < 2 ^ (fieldWidth fmt c - n) := by
    apply Nat.div_lt_of_lt_mul
    rw [← Nat.pow_add, Nat.add_sub_cancel' hn]
    exact channelOf_lt fmt c p
  rw [BitVec.ushiftRight_and_distrib, channelOf_shiftRight_and hm (by omega), Nat.mod_eq_of_lt hfit]

/-! ## Averages -/

theorem channelOf_half (fmt : PixelFormat) (c : Channel) (p : Pixel) :
    channelOf fmt c ((p &&& colorMask fmt) >>> 1) = channelOf fmt c p / 2 :=
  channelOf_and_shiftRight (n := 1) (by cases fmt <;> cases c <;> decide)
    (le_trans (by decide) (two_le_fieldWidth fmt c)) p

theorem channelOf_quarter (fmt : PixelFormat) (c : Channel) (p : Pixel) :
    channelOf fmt c ((p &&& qcolorMask fmt) >>> 2) = channelOf fmt c p / 4 :=
  channelOf_and_shiftRight (n := 2) (by cases fmt <;> cases c <;> decide)
    (two_le_fieldWidth fmt c) p

theorem channelOf_lowBit (fmt : PixelFormat) (c : Channel) (p : Pixel) :
    channelOf fmt c (p &&& lowPixelMask fmt) = channelOf fmt c p % 2 := by
  have hmask : channelOf fmt c (lowPixelMask fmt) = 2 ^ 1 - 1 := by
    cases fmt <;> cases c <;> decide
  rw [channelOf_and, hmask, Nat.and_two_pow_sub_one_eq_mod, pow_one]

theorem channelOf_qlowpixelMask (fmt : PixelFormat) (c : Channel) :
    channelOf fmt c (qlowpixelMask fmt) = 2 ^ 2 - 1 := by
  cases fmt <;> cases c <;> decide

theorem channelOf_lowBits (fmt : PixelFormat) (c : Channel) (p : Pixel) :
    channelOf fmt c (p &&& qlowpixelMask fmt) = channelOf fmt c p % 4 := by
  rw [channelOf_and, channelOf_qlowpixelMask, Nat.and_two_pow_sub_one_eq_mod]

theorem channelOf_carriedBits (fmt : PixelFormat) (c : Channel) (p : Pixel) :
    channelOf fmt c ((p >>> 2) &&& qlowpixelMask fmt) = channelOf fmt c p / 4 % 4 := by
  have := fieldWidth_five_or_six fmt c
  exact channelOf_shiftRight_and (channelOf_qlowpixelMask fmt c) (by omega) p

/-- The two halves and the low bit both values share make the rounded-down mean. -/
theorem half_add_half_add_shared_low (u v : Nat) : u / 2 + v / 2 + (u &&& v) % 2 = (u + v) / 2 := by
  have hshared : (u &&& v) % 2 = u % 2 * (v % 2) := by
    rw [← pow_one 2, Nat.and_mod_two_pow, pow_one]
    obtain hu | hu := Nat.mod_two_eq_zero_or_one u <;> obtain hv | hv := Nat.mod_two_eq_zero_or_one v <;>
      simp [hu, hv]
  rw [hshared]
  obtain hu | hu := Nat.mod_two_eq_zero_or_one u <;> rw [hu] <;> omega

/-- Settles O28: lane by lane, with no carry between lanes. -/
theorem average2ChannelMean : Obligations.Average2ChannelMean := by
  intro fmt a b c
  unfold average2
  split
  case isTrue heq => rw [← heq]; omega
  case isFalse =>
    have hlane : ∀ k, channelOf fmt k ((a &&& colorMask fmt) >>> 1)
        + channelOf fmt k ((b &&& colorMask fmt) >>> 1) + channelOf fmt k (a &&& b &&& lowPixelMask fmt)
        = (channelOf fmt k a + channelOf fmt k b) / 2 := fun k => by
      rw [channelOf_half, channelOf_half, channelOf_lowBit, channelOf_and, half_add_half_add_shared_low]
    rw [channelOf_add_three (fun k => ?_), hlane]
    have ha := channelOf_le_channelMax fmt k a
    have hb := channelOf_le_channelMax fmt k b
    rw [hlane]
    omega

/-- The sum of the four remainders that `average4` adds up fits every lane. -/
theorem twelve_le_channelMax (fmt : PixelFormat) (c : Channel) : 12 ≤ channelMax fmt c := by
  cases fmt <;> cases c <;> decide

/-- Settles O29: the quarters and the carried remainders are added lane by lane. -/
theorem average4ChannelMean : Obligations.Average4ChannelMean := by
  intro fmt a b c d k
  have hmax : ∀ j, channelOf fmt j a ≤ channelMax fmt j ∧ channelOf fmt j b ≤ channelMax fmt j ∧
      channelOf fmt j c ≤ channelMax fmt j ∧ channelOf fmt j d ≤ channelMax fmt j := fun j =>
    ⟨channelOf_le_channelMax _ _ _, channelOf_le_channelMax _ _ _, channelOf_le_channelMax _ _ _,
      channelOf_le_channelMax _ _ _⟩
  have hquarters : ∀ j, channelOf fmt j (((a &&& qcolorMask fmt) >>> 2) + ((b &&& qcolorMask fmt) >>> 2)
      + ((c &&& qcolorMask fmt) >>> 2) + ((d &&& qcolorMask fmt) >>> 2)) =
      channelOf fmt j a / 4 + channelOf fmt j b / 4 + channelOf fmt j c / 4 + channelOf fmt j d / 4 := by
    intro j
    rw [channelOf_add_four (fun i => ?_)] <;> simp only [channelOf_quarter]
    obtain ⟨ha, hb, hc, hd⟩ := hmax i
    omega
  have hrests : ∀ j, channelOf fmt j ((a &&& qlowpixelMask fmt) + (b &&& qlowpixelMask fmt)
      + (c &&& qlowpixelMask fmt) + (d &&& qlowpixelMask fmt)) =
      channelOf fmt j a % 4 + channelOf fmt j b % 4 + channelOf fmt j c % 4 + channelOf fmt j d % 4 := by
    intro j
    rw [channelOf_add_four (fun i => ?_)] <;> simp only [channelOf_lowBits]
    have := twelve_le_channelMax fmt i
    omega
  rw [average4, channelOf_add (fun j => ?_), hquarters, channelOf_carriedBits, hrests]
  · omega
  · obtain ⟨ha, hb, hc, hd⟩ := hmax j
    rw [hquarters, channelOf_carriedBits, hrests]
    omega

/-! ## Packing -/

section
variable {fmt : PixelFormat} {v : Channel → Nat}

theorem packChannels_toNat (h : ∀ c, v c ≤ channelMax fmt c) :
    (packChannels fmt v).toNat = v .red * 2 ^ fieldShift fmt .red + v .green * 2 ^ fieldShift fmt .green
      + v .blue := by
  have hr := h .red
  have hg := h .green
  have hb := h .blue
  have hgs : fieldShift fmt .green = 5 := by cases fmt <;> rfl
  have hbs : fieldShift fmt .blue = 0 := by cases fmt <;> rfl
  have hblue : v .blue < 2 ^ 5 := by cases fmt <;> simp only [channelMax, fieldWidth] at hb <;> omega
  have hlow : v .green <<< 5 + v .blue < 2 ^ fieldShift fmt .red := by
    cases fmt <;> simp only [channelMax, fieldWidth, fieldShift, Nat.shiftLeft_eq] at hg ⊢ <;> omega
  have hfit : v .red <<< fieldShift fmt .red + (v .green <<< 5 + v .blue) < 2 ^ 16 := by
    cases fmt <;> simp only [channelMax, fieldWidth, fieldShift, Nat.shiftLeft_eq] at hr hlow ⊢ <;> omega
  rw [packChannels, pack, hgs, hbs, Nat.shiftLeft_zero, Nat.lor_assoc,
    ← Nat.shiftLeft_add_eq_or_of_lt hblue, ← Nat.shiftLeft_add_eq_or_of_lt hlow, BitVec.toNat_ofNat,
    Nat.mod_eq_of_lt hfit, Nat.shiftLeft_eq, Nat.shiftLeft_eq, Nat.add_assoc]

theorem channelOf_packChannels (h : ∀ c, v c ≤ channelMax fmt c) (c : Channel) :
    channelOf fmt c (packChannels fmt v) = v c := by
  have hr := h .red
  have hg := h .green
  have hb := h .blue
  rw [channelOf_eq_mod, packChannels_toNat h]
  cases fmt <;> cases c <;> simp only [channelMax, fieldShift, fieldWidth] at hr hg hb ⊢ <;> omega

end

theorem packChannels_channelOf_rgb565 (p : Pixel) : packChannels .rgb565 (channelOf .rgb565 · p) = p := by
  apply BitVec.eq_of_toNat_eq
  rw [packChannels_toNat fun c => channelOf_le_channelMax _ c p]
  simp only [channelOf_eq_mod, fieldShift, fieldWidth]
  omega

theorem packChannels_channelOf_rgb555 (p : Pixel) :
    packChannels .rgb555 (channelOf .rgb555 · p) = p &&& 0x7FFF := by
  apply BitVec.eq_of_toNat_eq
  have hlow : (p &&& 0x7FFF).toNat = p.toNat % 2 ^ 15 := Nat.and_two_pow_sub_one_eq_mod p.toNat 15
  rw [packChannels_toNat fun c => channelOf_le_channelMax _ c p, hlow]
  simp only [channelOf_eq_mod, fieldShift, fieldWidth]
  omega

/-- Bit 15 of RGB555 is no channel's (R123): a repacked word has it clear. -/
theorem packChannels_rgb555_bit15 {v : Channel → Nat} (h : ∀ c, v c ≤ channelMax .rgb555 c) :
    (packChannels .rgb555 v).getLsbD 15 = false := by
  have hr := h .red
  have hg := h .green
  have hb := h .blue
  apply Nat.testBit_lt_two_pow
  rw [packChannels_toNat h]
  simp only [channelMax, fieldShift, fieldWidth] at hr hg hb ⊢
  omega

/-- Settles O30: the clamped values fit their lanes. -/
theorem scaleBrightnessChannels : Obligations.ScaleBrightnessChannels := fun _ _ _ _ _ =>
  ⟨channelOf_packChannels fun _ => Nat.min_le_left _ _,
    packChannels_rgb555_bit15 fun _ => Nat.min_le_left _ _⟩

/-- Settles O31: a weighted mean of two channel values fits its lane, and that of a value with itself is
the value. -/
theorem blend35Channels : Obligations.Blend35Channels := by
  refine ⟨fun fmt n p c => channelOf_packChannels (fun k => ?_) c, fun p => ?_⟩
  · have hn := channelOf_le_channelMax fmt k n
    have hp := channelOf_le_channelMax fmt k p
    omega
  · have hfix : ∀ u, (3 * u + 5 * u) / 8 = u := fun u => by omega
    simp only [blend35, hfix, packChannels_channelOf_rgb565]

/-! ## Expansion to 8 bits -/

/-- The top `n` bits of the replicated value are the value. -/
theorem replicateBits_shiftRight {u n : Nat} (hu : u < 2 ^ n) (hn : 4 ≤ n) (hn8 : n ≤ 8) :
    replicateBits u n >>> (8 - n) = u := by
  have hmask : 0xFF >>> (8 - n) = 2 ^ n - 1 := by
    interval_cases n <;> rfl
  have hrest : u >>> (2 * n - 8) >>> (8 - n) = 0 := by
    rw [← Nat.shiftRight_add, show 2 * n - 8 + (8 - n) = n by omega]
    exact Nat.shiftRight_eq_zero u n hu
  rw [replicateBits, Nat.shiftRight_and_distrib, Nat.shiftRight_or_distrib, Nat.shiftLeft_shiftRight,
    hrest, hmask, Nat.or_zero, Nat.and_two_pow_sub_one_of_lt_two_pow hu]

theorem expand8_shiftRight (fmt : PixelFormat) (p : Pixel) (c : Channel) :
    expand8 fmt p c >>> (8 - fieldWidth fmt c) = channelOf fmt c p := by
  have := fieldWidth_five_or_six fmt c
  exact replicateBits_shiftRight (channelOf_lt fmt c p) (by omega) (by omega)

theorem pack8_expand8 (fmt : PixelFormat) (p : Pixel) :
    pack8 fmt (expand8 fmt p) = packChannels fmt (channelOf fmt · p) := by
  simp only [pack8, expand8_shiftRight]

/-- Settles O32: the expansion keeps every channel in its top bits, and repacking the channels of a
pixel gives its colour bits. -/
theorem packUndoesExpand : Obligations.PackUndoesExpand := fun p =>
  ⟨(pack8_expand8 .rgb565 p).trans (packChannels_channelOf_rgb565 p),
    (pack8_expand8 .rgb555 p).trans (packChannels_channelOf_rgb555 p)⟩

end Sys2Proof.Machine
end

section
/-!
PROOF. The basic filters of 41_filters_basic.md. A 2x filter places four sub-pixels (R144), each an
equation of its own here, so that the statements about their channels rest on the colour math alone.
A FLIP stores the image pixel by pixel without overlap, and its window is the whole frame.
-/

namespace Sys2Proof.Machine

open Sys2Proof

/-! ## The image a FLIP stores -/

theorem pixelAddr_add_two_le_of_col_lt {pitch x x' y : Nat} (hx : x < x') :
    pixelAddr pitch x y + 2 ≤ pixelAddr pitch x' y := by
  simp only [pixelAddr]
  omega

/-- A pitch that holds a row keeps the pixels of a row before those of every later row. -/
theorem pixelAddr_add_two_le_of_row_lt {pitch W x x' y y' : Nat} (hx : x < W) (hpitch : 2 * W ≤ pitch)
    (hy : y < y') : pixelAddr pitch x y + 2 ≤ pixelAddr pitch x' y' := calc
  y * pitch + 2 * x + 2 ≤ (y + 1) * pitch := by rw [Nat.add_one_mul y]; omega
  _ ≤ y' * pitch := Nat.mul_le_mul_right pitch hy
  _ ≤ y' * pitch + 2 * x' := Nat.le_add_right _ _

/-- DST holds the transform's image after a FLIP, pixel for pixel, where the pitch holds a row of it
(46_plugin_commands.md R252). -/
theorem flipEffect_dstHalf {s : State} {c : Clip} {X Y : Nat}
    (hpitch : 2 * (c.dst.x + imageWidth s c) ≤ s.operand.dstPitch.toNat)
    (hX : X < imageWidth s c) (hY : Y < imageHeight s c) :
    (flipEffect s c).dstHalf (flipAddr s c X Y) = transform s (sourceWindow s c) X Y := by
  obtain ⟨hlow, hhigh⟩ := storeImage_holds (addr := flipAddr s c) (m := s.dst)
    (px := transform s (sourceWindow s c))
    (fun _ _ _ hlt _ => pixelAddr_add_two_le_of_col_lt (Nat.add_lt_add_left hlt _))
    (fun _ _ _ _ hw _ hlt => pixelAddr_add_two_le_of_row_lt (Nat.add_lt_add_left hw _) hpitch
      (Nat.add_lt_add_left hlt _)) hX hY
  rw [State.dstHalf, flipEffect_dstByte, flipEffect_dstByte, flipDst, hlow, hhigh]
  exact pixelOfBytes_bytes _

/-- An axis whose surface holds it exactly is shown whole, with no border (47_clip_resolver.md R273). -/
theorem resolveAxis_exact (n m : Nat) : resolveAxis n m (n * m) = ⟨0, n, 0, n * m⟩ := by
  simp [resolveAxis]

/-- The rectangles of a FLIP are the full frame and surface (47_clip_resolver.md R273), where a 32-bit
SURF_H holds the height (log 7). -/
theorem Latched.flipClip_eq {s : State} (h : Latched s)
    (hH : s.operand.srcH.toNat * multiplier s.status.filter < 2 ^ 32) :
    flipClip s = ⟨⟨0, 0, s.operand.srcW.toNat, s.operand.srcH.toNat⟩,
      ⟨0, 0, s.operand.srcW.toNat * multiplier s.status.filter,
        s.operand.srcH.toNat * multiplier s.status.filter⟩⟩ := by
  simp only [flipClip, resolve, h.mult, multX_multWord, multY_multWord, h.surfW, h.surfH hH,
    resolveAxis_exact]

/-- A FLIP of the full frame stores the image of the whole source window at the row-pitch addresses
(46_plugin_commands.md R252, 20_memory.md R63). -/
theorem Latched.flip_dstHalf {s : State} (h : Latched s)
    (hH : s.operand.srcH.toNat * multiplier s.status.filter < 2 ^ 32) {X Y : Nat}
    (hX : X < s.operand.srcW.toNat * multiplier s.status.filter)
    (hY : Y < s.operand.srcH.toNat * multiplier s.status.filter) :
    (flipEffect s (flipClip s)).dstHalf (pixelAddr s.operand.dstPitch.toNat X Y) =
      transform s (wholeWindow s) X Y := by
  have hpitch := h.dstPitch
  have hstored := flipEffect_dstHalf (s := s) (c := flipClip s) (X := X) (Y := Y)
  simp only [h.flipClip_eq hH, flipAddr, imageWidth, imageHeight, sourceWindow, h.mult, multX_multWord,
    multY_multWord, Nat.zero_add] at hstored ⊢
  exact hstored (by rwa [← Nat.mul_assoc]) hX hY

/-- Settles O27: the stored image of Direct is the source window itself, and Direct always fits SURF_H. -/
theorem flipDirectCopies : Obligations.FlipDirectCopies := by
  intro s h hq ha hf
  refine ⟨_, h.exec_flip hq ha, fun x y hx hy => ?_⟩
  have hone (n : Nat) : n * multiplier .direct = n := Nat.mul_one n
  have hstored := (h.latched ha).flip_dstHalf (X := x) (Y := y)
  simp only [transform, hf, hone] at hstored
  exact hstored s.operand.srcH.isLt hx hy

/-! ## Sub-pixels and taps -/

section
variable (quad : Nat → Nat → Quad) (x y : Nat)

theorem Quad.pick_topLeft : (quad (2 * x / 2) (2 * y / 2)).pick (2 * x) (2 * y) = (quad x y).tl := by
  simp [Quad.pick]

theorem Quad.pick_topRight :
    (quad ((2 * x + 1) / 2) (2 * y / 2)).pick (2 * x + 1) (2 * y) = (quad x y).tr := by
  simp [Quad.pick, Nat.mul_add_div]

theorem Quad.pick_bottomLeft :
    (quad (2 * x / 2) ((2 * y + 1) / 2)).pick (2 * x) (2 * y + 1) = (quad x y).bl := by
  simp [Quad.pick, Nat.mul_add_div]

theorem Quad.pick_bottomRight :
    (quad ((2 * x + 1) / 2) ((2 * y + 1) / 2)).pick (2 * x + 1) (2 * y + 1) = (quad x y).br := by
  simp [Quad.pick, Nat.mul_add_div]

end

section
variable {S : Window} {x y : Nat} {dx dy : Int}

/-- A tap inside the window reads the neighbour (00_scope.md R15). -/
theorem Window.tap_inside {u v : Nat} (hu : (x : Int) + dx = u) (hv : (y : Int) + dy = v)
    (hw : u < S.w) (hh : v < S.h) : S.tap x y dx dy = S.px u v := by
  simp [Window.tap, hu, hv, hw, hh]

/-- The centre replaces a neighbour right of the last column (00_scope.md R15). -/
theorem Window.tap_right_of_last (h : (S.w : Int) ≤ x + dx) : S.tap x y dx dy = S.px x y :=
  if_neg fun ⟨_, hw, _⟩ => absurd hw (Int.not_lt.2 h)

end

/-! ## Scaled brightness and TV 2x -/

section
variable (fmt : PixelFormat) (c : Channel) (p : Pixel)

theorem channelOf_scaleBrightness (num den : Nat) : channelOf fmt c (scaleBrightness fmt p num den) =
    min (channelMax fmt c) (channelOf fmt c p * num / den) :=
  channelOf_packChannels (fun _ => Nat.min_le_left _ _) c

/-- Darkening never clamps. -/
theorem channelOf_scaleBrightness_of_le {num den : Nat} (h : num ≤ den) :
    channelOf fmt c (scaleBrightness fmt p num den) = channelOf fmt c p * num / den := by
  rw [channelOf_scaleBrightness]
  refine Nat.min_eq_right (le_trans (Nat.div_le_of_le_mul ?_) (channelOf_le_channelMax fmt c p))
  rw [Nat.mul_comm]
  exact Nat.mul_le_mul_right _ h

end

/-- Settles O33: the bottom sub-row is the pixel darkened by 7/8, which never clamps. -/
theorem tv2xScanlines : Obligations.Tv2xScanlines := by
  intro fmt S x y
  refine ⟨Quad.pick_topLeft (tv2xQuad fmt S) x y, Quad.pick_topRight (tv2xQuad fmt S) x y, fun c => ?_⟩
  have hdark : channelOf fmt c (scaleBrightness fmt (S.px x y) 7 8) =
      7 * channelOf fmt c (S.px x y) / 8 := by
    rw [channelOf_scaleBrightness_of_le fmt c _ (by decide), Nat.mul_comm]
  rw [xformTv2x, xformTv2x, Quad.pick_bottomLeft (tv2xQuad fmt S), Quad.pick_bottomRight (tv2xQuad fmt S)]
  exact ⟨hdark, hdark⟩

/-! ## Software bilinear and the last row -/

section
variable (fmt : PixelFormat) (S : Window)

@[simp] theorem average2_self (p : Pixel) : average2 fmt p p = p := if_pos rfl

theorem bilinearQuad_lastRow {y : Nat} (h : y + 1 = S.h) (x : Nat) : bilinearQuad fmt S x y =
    ⟨S.px x y, average2 fmt (S.px x y) (S.tap x y 1 0),
      S.px x y, average2 fmt (S.px x y) (S.tap x y 1 0)⟩ := if_pos h

theorem bilinearQuad_aboveLastRow {y : Nat} (h : y + 1 < S.h) (x : Nat) : bilinearQuad fmt S x y =
    ⟨S.px x y, average2 fmt (S.px x y) (S.tap x y 1 0), average2 fmt (S.px x y) (S.tap x y 0 1),
      average4 fmt (S.px x y) (S.tap x y 1 0) (S.tap x y 0 1) (S.tap x y 1 1)⟩ := if_neg h.ne

theorem xformBilinear_topLeft (x y : Nat) : xformBilinear fmt S (2 * x) (2 * y) = S.px x y := by
  rw [xformBilinear, Quad.pick_topLeft (bilinearQuad fmt S), bilinearQuad]
  split <;> rfl

theorem xformBilinear_topRight (x y : Nat) : xformBilinear fmt S (2 * x + 1) (2 * y) =
    average2 fmt (S.px x y) (S.tap x y 1 0) := by
  rw [xformBilinear, Quad.pick_topRight (bilinearQuad fmt S), bilinearQuad]
  split <;> rfl

theorem xformBilinear_bottomLeft {y : Nat} (h : y + 1 < S.h) (x : Nat) :
    xformBilinear fmt S (2 * x) (2 * y + 1) = average2 fmt (S.px x y) (S.tap x y 0 1) := by
  rw [xformBilinear, Quad.pick_bottomLeft (bilinearQuad fmt S), bilinearQuad_aboveLastRow fmt S h]

theorem xformBilinear_bottomRight {y : Nat} (h : y + 1 < S.h) (x : Nat) :
    xformBilinear fmt S (2 * x + 1) (2 * y + 1) =
      average4 fmt (S.px x y) (S.tap x y 1 0) (S.tap x y 0 1) (S.tap x y 1 1) := by
  rw [xformBilinear, Quad.pick_bottomRight (bilinearQuad fmt S), bilinearQuad_aboveLastRow fmt S h]

/-- The sub-rows of the last row agree (41_filters_basic.md R146). -/
theorem xformBilinear_lastRow {y : Nat} (h : y + 1 = S.h) (X : Nat) :
    xformBilinear fmt S X (2 * y + 1) = xformBilinear fmt S X (2 * y) := by
  have hodd : (2 * y + 1) / 2 = y := by omega
  have heven : 2 * y / 2 = y := by omega
  simp only [xformBilinear, hodd, heven, bilinearQuad_lastRow fmt S h, Quad.pick, ite_self]

theorem xformBicubic_lastRow {y : Nat} (h : y + 1 = S.h) (X : Nat) :
    xformBicubic fmt S X (2 * y + 1) = xformBicubic fmt S X (2 * y) := by
  have hbottom : (2 * y + 1) / 2 + 1 = S.h ∧ (2 * y + 1) % 2 = 1 := by omega
  have htop : ¬ (2 * y / 2 + 1 = S.h ∧ 2 * y % 2 = 1) := by omega
  rw [xformBicubic, xformBicubic, if_pos hbottom, if_neg htop, Nat.add_sub_cancel]

/-- Beyond the last column the centre stands for the right neighbour, and the mean of a pixel with
itself is the pixel. -/
theorem xformBilinear_topRight_lastCol {x : Nat} (h : x + 1 = S.w) (y : Nat) :
    xformBilinear fmt S (2 * x + 1) (2 * y) = S.px x y := by
  rw [xformBilinear_topRight, Window.tap_right_of_last (by omega), average2_self]

end

/-- Settles O34: the two sub-rows of the last row are numbered from its index, and agree. -/
theorem lastRowDuplicated : Obligations.LastRowDuplicated := by
  intro fmt S X hh
  obtain ⟨y, hy⟩ := Nat.exists_eq_add_of_le' hh
  have hbottom : 2 * S.h - 1 = 2 * y + 1 := by omega
  have htop : 2 * S.h - 2 = 2 * y := by omega
  rw [hbottom, htop]
  exact ⟨xformBilinear_lastRow fmt S hy.symm X, xformBicubic_lastRow fmt S hy.symm X⟩

/-- Settles O59: each sub-pixel is a mean of taps, and a tap reads the neighbour where there is one and
the centre beyond the last column. -/
theorem bilinearChannels : Obligations.BilinearChannels := by
  intro fmt S x y hx hy
  have hright : x + 1 < S.w → S.tap x y 1 0 = S.px (x + 1) y := fun hw =>
    Window.tap_inside (by simp) (by simp) hw hy
  have hbelow : y + 1 < S.h → S.tap x y 0 1 = S.px x (y + 1) := fun hh =>
    Window.tap_inside (by simp) (by simp) hx hh
  refine ⟨xformBilinear_topLeft fmt S x y, fun hw => xformBilinear_topRight_lastCol fmt S hw y,
    fun hh => ⟨?lastRowLeft, xformBilinear_lastRow fmt S hh _⟩,
    fun c => ⟨fun hw => ?topRight, fun hh => ?bottomLeft, fun hw hh => ?bottomRight,
      fun hw hh => ?lastColumn⟩⟩
  case lastRowLeft => rw [xformBilinear_lastRow fmt S hh, xformBilinear_topLeft]
  case topRight => rw [xformBilinear_topRight, hright hw, average2ChannelMean]
  case bottomLeft => rw [xformBilinear_bottomLeft fmt S hh, hbelow hh, average2ChannelMean]
  case bottomRight =>
    have hdiag : S.tap x y 1 1 = S.px (x + 1) (y + 1) :=
      Window.tap_inside (by simp) (by simp) hw hh
    rw [xformBilinear_bottomRight fmt S hh, hright hw, hbelow hh, hdiag, average4ChannelMean]
  case lastColumn =>
    have hbeyond : ∀ dy, S.tap x y 1 dy = S.px x y := fun _ => Window.tap_right_of_last (by omega)
    rw [xformBilinear_bottomRight fmt S hh, hbeyond, hbeyond, hbelow hh, average4ChannelMean]
    omega

/-! ## Dot matrix and Monitor 2x -/

/-- Settles O35: the definition of the transform is R148's expression. -/
theorem dotMatrixPixel : Obligations.DotMatrixPixel := fun _ _ _ _ _ => rfl

/-- Monitor 2x rescales the pixel Software bilinear places at the same position
(41_filters_basic.md R150). -/
theorem xformMonitor2x_eq (fmt : PixelFormat) (S : Window) (X Y : Nat) : xformMonitor2x fmt S X Y =
    if Y % 2 = 0 then scaleBrightness fmt (xformBilinear fmt S X Y) 9 8
    else scaleBrightness fmt (scaleBrightness fmt (xformBilinear fmt S X Y) 9 8) 1 2 := by
  simp only [xformMonitor2x, monitor2xQuad, xformBilinear, Quad.pick]
  split <;> split <;> rfl

/-- Settles O36: the boost clamps, the halving after it does not. -/
theorem monitor2xChannels : Obligations.Monitor2xChannels := by
  intro fmt S X Y c
  rw [xformMonitor2x_eq]
  split
  case isTrue => exact channelOf_scaleBrightness ..
  case isFalse =>
    rw [channelOf_scaleBrightness_of_le fmt c _ (by decide), channelOf_scaleBrightness, Nat.mul_one]
    rfl

end Sys2Proof.Machine
end

section
/-!
PROOF. The edge filters of 42_filters_edge.md. Every sub-pixel is a tap or a mean of taps (R169 (d)), so a
property that the window's pixels have and that means keep is a property of the whole image. The range of
a channel (R166) is one such property, being a pixel of the source another, kept where nothing is averaged.
-/

namespace Sys2Proof.Machine

open Sys2Proof

/-! ## Properties of every pixel -/

/-- Every pixel of the window has the property. -/
def Window.All (P : Pixel → Prop) (S : Window) : Prop := ∀ x y, x < S.w → y < S.h → P (S.px x y)

/-- Every sub-pixel of the quad has the property. -/
def Quad.All (P : Pixel → Prop) (q : Quad) : Prop := P q.tl ∧ P q.tr ∧ P q.bl ∧ P q.br

/-- The two means of the colour math keep the property. -/
structure ClosedUnderMeans (fmt : PixelFormat) (P : Pixel → Prop) : Prop where
  mean2 : ∀ {p q}, P p → P q → P (average2 fmt p q)
  mean4 : ∀ {p q r s}, P p → P q → P r → P s → P (average4 fmt p q r s)

/-- The channel lies between the two bounds. -/
def InRange (fmt : PixelFormat) (c : Channel) (lo hi : Nat) (p : Pixel) : Prop :=
  lo ≤ channelOf fmt c p ∧ channelOf fmt c p ≤ hi

/-- A mean lies between the least and the greatest of its operands (40_color_math.md R113, R115). -/
theorem closedUnderMeans_inRange (fmt : PixelFormat) (c : Channel) (lo hi : Nat) :
    ClosedUnderMeans fmt (InRange fmt c lo hi) where
  mean2 {p q} := by
    rintro ⟨hp, hp'⟩ ⟨hq, hq'⟩
    rw [InRange, average2ChannelMean]
    omega
  mean4 {p q r s} := by
    rintro ⟨hp, hp'⟩ ⟨hq, hq'⟩ ⟨hr, hr'⟩ ⟨hs, hs'⟩
    rw [InRange, average4ChannelMean]
    omega

/-- In RGB565 the channels fill the word. -/
theorem eq_of_channelOf_eq_rgb565 {p q : Pixel}
    (h : ∀ c, channelOf .rgb565 c p = channelOf .rgb565 c q) : p = q := by
  rw [← packChannels_channelOf_rgb565 p, funext h, packChannels_channelOf_rgb565]

theorem average4_self_rgb565 (p : Pixel) : average4 .rgb565 p p p p = p :=
  eq_of_channelOf_eq_rgb565 fun c => by
    rw [average4ChannelMean]
    omega

/-- Not so in RGB555, where `average4` drops bit 15. -/
theorem closedUnderMeans_eq_rgb565 (v : Pixel) : ClosedUnderMeans .rgb565 (· = v) where
  mean2 := by
    rintro _ _ rfl rfl
    exact average2_self .rgb565 _
  mean4 := by
    rintro _ _ _ _ rfl rfl rfl rfl
    exact average4_self_rgb565 _

theorem Quad.All.pick {P : Pixel → Prop} {q : Quad} (h : q.All P) (X Y : Nat) : P (q.pick X Y) := by
  obtain ⟨htl, htr, hbl, hbr⟩ := h
  unfold Quad.pick
  split_ifs
  exacts [htl, htr, hbl, hbr]

/-- Beside a pixel of the window a tap reads a pixel of the window, the centre where there is no
neighbour (00_scope.md R15). -/
theorem Window.All.tap {P : Pixel → Prop} {S : Window} {x y : Nat} (h : S.All P) (hx : x < S.w)
    (hy : y < S.h) (dx dy : Int) : P (S.tap x y dx dy) := by
  unfold Window.tap
  dsimp only
  split
  case isTrue hin => exact h _ _ (by omega) (by omega)
  case isFalse => exact h x y hx hy

/-- A tap by the coordinates of the neighbour, in natural numbers (00_scope.md R15). -/
theorem Window.tap_eq_ite {S : Window} {x y : Nat} {dx dy : Int} {inside : Prop} [Decidable inside]
    {u v : Nat}
    (hin : 0 ≤ (x : Int) + dx ∧ (x : Int) + dx < S.w ∧ 0 ≤ (y : Int) + dy ∧ (y : Int) + dy < S.h ↔ inside)
    (hu : ((x : Int) + dx).toNat = u) (hv : ((y : Int) + dy).toNat = v) :
    S.tap x y dx dy = if inside then S.px u v else S.px x y := by
  subst hu hv
  exact if_congr hin rfl rfl

/-! ## What the transforms keep -/

section
variable {fmt : PixelFormat} {P : Pixel → Prop} {S : Window} {x y : Nat}

/-- Scale2x selects, and computes nothing (42_filters_edge.md R160). -/
theorem scale2xQuad_all (hS : S.All P) (hx : x < S.w) (hy : y < S.h) : (scale2xQuad S x y).All P := by
  have hcentre := hS x y hx hy
  have htap := hS.tap hx hy
  refine ⟨?_, ?_, ?_, ?_⟩ <;> exact iteInduction (fun _ => htap _ _) (fun _ => hcentre)

/-- Bilinear averages the centre with its neighbours right and below (41_filters_basic.md R145, R146). -/
theorem bilinearQuad_all (hP : ClosedUnderMeans fmt P) (hS : S.All P) (hx : x < S.w) (hy : y < S.h) :
    (bilinearQuad fmt S x y).All P := by
  have hcentre := hS x y hx hy
  have htap := hS.tap hx hy
  have hright := hP.mean2 hcentre (htap 1 0)
  obtain hlast | habove : y + 1 = S.h ∨ y + 1 < S.h := by omega
  · rw [bilinearQuad_lastRow fmt S hlast]
    exact ⟨hcentre, hright, hcentre, hright⟩
  · rw [bilinearQuad_aboveLastRow fmt S habove]
    exact ⟨hcentre, hright, hP.mean2 hcentre (htap _ _), hP.mean4 hcentre (htap _ _) (htap _ _) (htap _ _)⟩

/-- SuperEagle, one case for each way the two diagonals of its 2×2 block compare
(42_filters_edge.md R164, R166). -/
theorem superEagleQuad_all (hP : ClosedUnderMeans fmt P) (hS : S.All P) (hx : x < S.w) (hy : y < S.h) :
    (superEagleQuad fmt S x y).All P := by
  have h5 := hS x y hx hy
  have tap := hS.tap hx hy
  have h6 := tap 1 0
  have h2 := tap 0 1
  have h3 := tap 1 1
  have h56 := hP.mean2 h5 h6
  have h23 := hP.mean2 h2 h3
  have h26 := hP.mean2 h2 h6
  have h53 := hP.mean2 h5 h3
  simp only [superEagleQuad]
  refine iteInduction (fun _ => ?rising) fun _ => iteInduction (fun _ => ?falling) fun _ =>
    iteInduction (fun _ => iteInduction (fun _ => ?bothRising) fun _ =>
      iteInduction (fun _ => ?bothFalling) fun _ => ?bothTied) fun _ => ?neither
  case rising =>
    exact ⟨iteInduction (fun _ => hP.mean2 h2 (hP.mean2 h2 h5)) fun _ => h56, h2, h2,
      iteInduction (fun _ => hP.mean2 h2 h23) fun _ => h23⟩
  case falling =>
    exact ⟨h5, iteInduction (fun _ => hP.mean2 h5 h56) fun _ => h56,
      iteInduction (fun _ => hP.mean2 h5 (hP.mean2 h5 h2)) fun _ => h23, h5⟩
  case bothRising => exact ⟨h56, h2, h2, h56⟩
  case bothFalling => exact ⟨h5, h56, h56, h5⟩
  case bothTied => exact ⟨h5, h2, h2, h5⟩
  case neither =>
    exact ⟨hP.mean4 h5 h5 h5 h26, hP.mean4 h6 h6 h6 h53, hP.mean4 h2 h2 h2 h53, hP.mean4 h3 h3 h3 h26⟩

/-- Advanced Scale2x, by the same four cases (42_filters_edge.md R167, R169). -/
theorem advScale2xQuad_all (hP : ClosedUnderMeans fmt P) (hS : S.All P) (hx : x < S.w) (hy : y < S.h) :
    (advScale2xQuad fmt S x y).All P := by
  have ha := hS x y hx hy
  have tap := hS.tap hx hy
  have hb := tap 1 0
  have hc := tap 0 1
  have hab := hP.mean2 ha hb
  have hac := hP.mean2 ha hc
  have hall := hP.mean4 ha hb hc (tap 1 1)
  simp only [advScale2xQuad]
  refine iteInduction (fun _ => ?falling) fun _ => iteInduction (fun _ => ?rising) fun _ =>
    iteInduction (fun _ => iteInduction (fun _ => ?oneColour) fun _ => ?both) fun _ => ?neither
  case falling =>
    exact ⟨ha, iteInduction (fun _ => ha) fun _ => hab, iteInduction (fun _ => ha) fun _ => hac, ha⟩
  case rising =>
    exact ⟨ha, iteInduction (fun _ => hb) fun _ => hab, iteInduction (fun _ => hc) fun _ => hac, hb⟩
  case oneColour => exact ⟨ha, ha, ha, ha⟩
  case both =>
    exact ⟨ha, hab, hac,
      iteInduction (fun _ => ha) fun _ => iteInduction (fun _ => hb) fun _ => hall⟩
  case neither =>
    exact ⟨ha, iteInduction (fun _ => ha) fun _ => iteInduction (fun _ => hb) fun _ => hab,
      iteInduction (fun _ => ha) fun _ => iteInduction (fun _ => hc) fun _ => hac, hall⟩

end

/-! ## The tie-break vote -/

/-- With neither C nor D equal to A the vote is on how many of them equal B (42_filters_edge.md R162). -/
theorem getResult_of_ne {a c d : Pixel} (hc : c ≠ a) (hd : d ≠ a) (b : Pixel) :
    getResult a b c d = if c = b ∧ d = b then 1 else 0 := by
  simp only [getResult, if_neg hc.symm, if_neg hd.symm, eq_comm (a := b)]
  by_cases hcb : c = b <;> by_cases hdb : d = b <;> simp [hcb, hdb]

/-- Settles O39: one operand alone moves neither count of R162 past 1. -/
theorem getResultVotes : Obligations.GetResultVotes := by
  intro a b c d
  by_cases hc : c = a
  · by_cases hd : d = a
    · simp [getResult, hc, hd]
    · by_cases hb : b = d <;> simp [getResult, hc, hd, Ne.symm hd, hb]
  · by_cases hd : d = a
    · by_cases hb : b = c <;> simp [getResult, hc, hd, Ne.symm hc, hb]
    · simp [getResult_of_ne hc hd, hc, hd]

theorem getResult_self (p : Pixel) : getResult p p p p = -1 := by
  rw [getResultVotes, if_pos ⟨rfl, rfl⟩]

/-! ## Flat images -/

section
variable {S : Window} {v : Pixel} {x y : Nat}

/-- Every vote of a flat block goes to its falling diagonal (42_filters_edge.md R164). -/
theorem superEagleQuad_flat (fmt : PixelFormat) (hS : S.All (· = v)) (hx : x < S.w) (hy : y < S.h) :
    superEagleQuad fmt S x y = ⟨v, v, v, v⟩ := by
  simp [superEagleQuad, hS x y hx hy, hS.tap hx hy, getResult_self]

/-- A flat block is the third branch with A = B (42_filters_edge.md R167). -/
theorem advScale2xQuad_flat (fmt : PixelFormat) (hS : S.All (· = v)) (hx : x < S.w) (hy : y < S.h) :
    advScale2xQuad fmt S x y = ⟨v, v, v, v⟩ := by
  simp [advScale2xQuad, hS x y hx hy, hS.tap hx hy]

/-- The weights of either phase sum to 48 (43_filter_bicubic.md R181). -/
theorem sum_bicubicWeight (phase : Nat) : ((List.range 4).map (bicubicWeight phase)).sum = 48 := by
  obtain rfl | h := eq_or_ne phase 0
  · rfl
  · simp [bicubicWeight, h, List.range_succ]

theorem bicubicSum_flat (fmt : PixelFormat) {X Y : Nat} (hS : S.All (· = v)) (hx : X / 2 < S.w)
    (hy : Y / 2 < S.h) (c : Channel) : bicubicSum fmt S X Y c = 2304 * channelOf fmt c v := by
  simp only [bicubicSum, hS.tap hx hy, Nat.mul_assoc, List.sum_map_mul_left, List.sum_map_mul_right,
    sum_bicubicWeight]
  omega

theorem bicubicPixel_flat {X Y : Nat} (hS : S.All (· = v)) (hx : X / 2 < S.w) (hy : Y / 2 < S.h) :
    bicubicPixel .rgb565 S X Y = v := by
  have hround : ∀ u, (2 * (2304 * u) + 2304) / 4608 = u := fun u => by omega
  simp only [bicubicPixel, bicubicSum_flat .rgb565 hS hx hy, hround, packChannels_channelOf_rgb565]

theorem xformBicubic_flat {X Y : Nat} (hS : S.All (· = v)) (hx : X / 2 < S.w) (hy : Y / 2 < S.h) :
    xformBicubic .rgb565 S X Y = v := by
  unfold xformBicubic
  split
  case isTrue => exact bicubicPixel_flat hS hx (by omega)
  case isFalse => exact bicubicPixel_flat hS hx hy

end

/-! ## The statements about the edge filters -/

/-- Settles O37: being the one colour is a property that Scale2x and bilinear keep; the quads of the
other two edge filters are computed, and the bicubic weights sum to 48² = 2304. -/
theorem flatImageStaysFlat : Obligations.FlatImageStaysFlat := by
  intro fmt S v (hS : S.All (· = v)) X Y hX hY
  have hx : X / 2 < S.w := by omega
  have hy : Y / 2 < S.h := by omega
  have hquad : (⟨v, v, v, v⟩ : Quad).All (· = v) := ⟨rfl, rfl, rfl, rfl⟩
  refine ⟨(scale2xQuad_all hS hx hy).pick X Y, ?advScale2x, ?superEagle,
    (bilinearQuad_all (closedUnderMeans_eq_rgb565 v) hS hx hy).pick X Y, xformBicubic_flat hS hx hy⟩
  case advScale2x =>
    rw [xformAdvScale2x, advScale2xQuad_flat fmt hS hx hy]
    exact hquad.pick X Y
  case superEagle =>
    rw [xformSuperEagle, superEagleQuad_flat fmt hS hx hy]
    exact hquad.pick X Y

/-- Settles O38: being a pixel of the source is a property that Scale2x keeps; the rule's four
conditions are its quad over the taps, which are read here by their coordinates. -/
theorem scale2xNoNewColour : Obligations.Scale2xNoNewColour := by
  refine ⟨fun S X Y hX hY => ?source, fun S x y e b d f h he hb hd hf hh => ?rule⟩
  case source =>
    have hS : S.All fun p => ∃ x y, x < S.w ∧ y < S.h ∧ p = S.px x y :=
      fun x y hx hy => ⟨x, y, hx, hy, rfl⟩
    exact (scale2xQuad_all hS (by omega) (by omega)).pick X Y
  case rule =>
    have habove : S.tap x y 0 (-1) = b :=
      (Window.tap_eq_ite (by omega) (by omega) (by omega)).trans (he ▸ hb).symm
    have hleft : S.tap x y (-1) 0 = d :=
      (Window.tap_eq_ite (by omega) (by omega) (by omega)).trans (he ▸ hd).symm
    have hright : S.tap x y 1 0 = f :=
      (Window.tap_eq_ite (by omega) (by omega) (by omega)).trans (he ▸ hf).symm
    have hbelow : S.tap x y 0 1 = h :=
      (Window.tap_eq_ite (by omega) (by omega) (by omega)).trans (he ▸ hh).symm
    simp only [xformScale2x, Quad.pick_topLeft (scale2xQuad S), Quad.pick_topRight (scale2xQuad S),
      Quad.pick_bottomLeft (scale2xQuad S), Quad.pick_bottomRight (scale2xQuad S)]
    simp only [scale2xQuad, habove, hleft, hright, hbelow, ← he, and_self]

/-- Settles O40: a range is a property that means keep. -/
theorem edgeFiltersStayInRange : Obligations.EdgeFiltersStayInRange := by
  intro fmt S c lo hi hS X Y hX hY
  have hx : X / 2 < S.w := by omega
  have hy : Y / 2 < S.h := by omega
  have hmeans := closedUnderMeans_inRange fmt c lo hi
  exact ⟨(superEagleQuad_all hmeans hS hx hy).pick X Y, (advScale2xQuad_all hmeans hS hx hy).pick X Y⟩

end Sys2Proof.Machine
end

section
/-!
PROOF. Software bicubic (43_filter_bicubic.md). A weighted sum lies between the least and the greatest of
its terms of non-zero weight, times the sum of the weights. The kernel applies this twice, along the rows
and along the columns of its taps, and the rounding by 48² = 2304 keeps both bounds.
-/

namespace Sys2Proof.Machine

open Sys2Proof

/-- A term of weight zero is no part of the sum, so its value is not bounded. -/
theorem weightedSum_bounds {ι : Type*} {s : Finset ι} {w v : ι → Nat} {lo hi : Nat}
    (h : ∀ i ∈ s, w i ≠ 0 → lo ≤ v i ∧ v i ≤ hi) :
    (∑ i ∈ s, w i) * lo ≤ ∑ i ∈ s, w i * v i ∧ ∑ i ∈ s, w i * v i ≤ (∑ i ∈ s, w i) * hi := by
  have hterm : ∀ i ∈ s, w i * lo ≤ w i * v i ∧ w i * v i ≤ w i * hi := fun i hmem => by
    obtain hzero | hweight := eq_or_ne (w i) 0
    · simp [hzero]
    · obtain ⟨hlo, hhi⟩ := h i hmem hweight
      exact ⟨Nat.mul_le_mul_left _ hlo, Nat.mul_le_mul_left _ hhi⟩
  rw [Finset.sum_mul, Finset.sum_mul]
  exact ⟨Finset.sum_le_sum fun i hmem => (hterm i hmem).1,
    Finset.sum_le_sum fun i hmem => (hterm i hmem).2⟩

/-! ## The kernel -/

section
variable (fmt : PixelFormat) (S : Window) (X Y : Nat) (c : Channel)

/-- The channel of the tap in row `i` and column `j` of the kernel (43_filter_bicubic.md R181). -/
def bicubicTap (i j : Nat) : Nat :=
  channelOf fmt c (S.tap (X / 2) (Y / 2) ((j : Int) - 1) ((i : Int) - 1))

theorem bicubicSum_eq_sum : bicubicSum fmt S X Y c =
    ∑ i ∈ Finset.range 4, ∑ j ∈ Finset.range 4,
      bicubicWeight (Y % 2) i * bicubicWeight (X % 2) j * bicubicTap fmt S X Y c i j := rfl

theorem sum_range_bicubicWeight (phase : Nat) : ∑ i ∈ Finset.range 4, bicubicWeight phase i = 48 :=
  sum_bicubicWeight phase

variable {fmt S X Y c}

/-- The weights of the kernel sum to 48² = 2304 (43_filter_bicubic.md R182). -/
theorem bicubicSum_bounds {lo hi : Nat}
    (h : ∀ i j : Nat, i < 4 → j < 4 → bicubicWeight (Y % 2) i ≠ 0 → bicubicWeight (X % 2) j ≠ 0 →
      lo ≤ bicubicTap fmt S X Y c i j ∧ bicubicTap fmt S X Y c i j ≤ hi) :
    2304 * lo ≤ bicubicSum fmt S X Y c ∧ bicubicSum fmt S X Y c ≤ 2304 * hi := by
  have hrow : ∀ i ∈ Finset.range 4, bicubicWeight (Y % 2) i ≠ 0 →
      48 * lo ≤ ∑ j ∈ Finset.range 4, bicubicWeight (X % 2) j * bicubicTap fmt S X Y c i j ∧
      ∑ j ∈ Finset.range 4, bicubicWeight (X % 2) j * bicubicTap fmt S X Y c i j ≤ 48 * hi := by
    intro i hrowMem hweight
    rw [← sum_range_bicubicWeight (X % 2)]
    exact weightedSum_bounds fun j hj => h i j (Finset.mem_range.1 hrowMem) (Finset.mem_range.1 hj) hweight
  have hkernel := weightedSum_bounds hrow
  rw [sum_range_bicubicWeight] at hkernel
  simp only [bicubicSum_eq_sum, Nat.mul_assoc, ← Finset.mul_sum]
  omega

/-- Rounding half up moves no sum past a bound that is itself a multiple of the divisor. -/
theorem bicubicRound_bounds {acc lo hi : Nat} (h : 2304 * lo ≤ acc ∧ acc ≤ 2304 * hi) :
    lo ≤ (2 * acc + 2304) / 4608 ∧ (2 * acc + 2304) / 4608 ≤ hi := by
  omega

variable (fmt S X Y c)

/-- No channel overflows its field, as no tap does. -/
theorem channelOf_bicubicPixel : channelOf fmt c (bicubicPixel fmt S X Y) =
    (2 * bicubicSum fmt S X Y c + 2304) / 4608 :=
  channelOf_packChannels (fun _ => (bicubicRound_bounds <| bicubicSum_bounds fun _ _ _ _ _ _ =>
    ⟨Nat.zero_le _, channelOf_le_channelMax ..⟩).2) c

end

/-- Only the last sub-row is a copy (41_filters_basic.md R146). -/
theorem xformBicubic_eq_bicubicPixel (fmt : PixelFormat) {S : Window} {Y : Nat} (h : Y + 1 < 2 * S.h)
    (X : Nat) : xformBicubic fmt S X Y = bicubicPixel fmt S X Y :=
  if_neg fun ⟨_, _⟩ => by omega

/-- Settles O41: the weights of the kernel sum to 2304 and the rounding divides by that, so the bounds of
the taps are bounds of the rounded sum. -/
theorem bicubicStaysInRange : Obligations.BicubicStaysInRange := by
  refine ⟨fun fmt S c lo hi X Y htaps => ?range, ⟨rfl, rfl⟩, fun fmt S X Y =>
    ⟨channelOf_bicubicPixel fmt S X Y, fun habove => xformBicubic_eq_bicubicPixel fmt habove X⟩⟩
  case range =>
    rw [channelOf_bicubicPixel]
    exact bicubicRound_bounds (bicubicSum_bounds htaps)

end Sys2Proof.Machine
end

section
/-!
PROOF. The tables of the CRT LUT engine (44_crt_lut_engine.md). LUMA is a weighted mean of the expanded
channels, rounded down. The gamma table counts the levels whose rounding bound the real power reaches, so
it is that power rounded. The identity record makes each stage of the triad build the identity.
-/

namespace Sys2Proof.Machine

open Sys2Proof

/-! ## The 8-bit scale -/

/-- Bit replication is a sum: the copied top bits fit below the shifted value (40_color_math.md R118). -/
theorem replicateBits_eq_add {u n : Nat} (hu : u < 2 ^ n) (hn : 4 ≤ n) (hn8 : n ≤ 8) :
    replicateBits u n = u * 2 ^ (8 - n) + u / 2 ^ (2 * n - 8) := by
  have hrest : u >>> (2 * n - 8) < 2 ^ (8 - n) := by
    rw [Nat.shiftRight_eq_div_pow]
    refine Nat.div_lt_of_lt_mul ?_
    rwa [← pow_add, show 2 * n - 8 + (8 - n) = n by omega]
  have hfit : u <<< (8 - n) + u >>> (2 * n - 8) < 2 ^ 8 := by
    rw [Nat.shiftLeft_eq]
    calc u * 2 ^ (8 - n) + u >>> (2 * n - 8)
        < (u + 1) * 2 ^ (8 - n) := by rw [Nat.add_one_mul u]; omega
      _ ≤ 2 ^ n * 2 ^ (8 - n) := Nat.mul_le_mul_right _ hu
      _ = 2 ^ 8 := by rw [← pow_add, show n + (8 - n) = 8 by omega]
  rw [replicateBits, ← Nat.shiftLeft_add_eq_or_of_lt hrest, show 0xFF = 2 ^ 8 - 1 from rfl,
    Nat.and_two_pow_sub_one_of_lt_two_pow hfit, Nat.shiftLeft_eq, Nat.shiftRight_eq_div_pow]

theorem expand8_le (fmt : PixelFormat) (p : Pixel) (c : Channel) : expand8 fmt p c ≤ 255 :=
  Nat.and_le_right

theorem expand8_mono {fmt : PixelFormat} {c : Channel} {p q : Pixel}
    (h : channelOf fmt c p ≤ channelOf fmt c q) : expand8 fmt p c ≤ expand8 fmt q c := by
  have hw := fieldWidth_five_or_six fmt c
  rw [expand8, expand8, replicateBits_eq_add (channelOf_lt fmt c p) (by omega) (by omega),
    replicateBits_eq_add (channelOf_lt fmt c q) (by omega) (by omega)]
  exact Nat.add_le_add (Nat.mul_le_mul_right _ h) (Nat.div_le_div_right h)

theorem rnd8_le (r : Rat) : rnd8 r ≤ 255 := by
  rw [rnd8]
  omega

theorem rnd_natCast (n : Nat) : rnd n = n := by
  have hfloor : ⌊(n : Rat) + 1 / 2⌋ = (n : Int) := by
    rw [Int.floor_natCast_add]
    norm_num
  exact hfloor

theorem rnd8_natCast {n : Nat} (h : n ≤ 255) : rnd8 n = n := by
  rw [rnd8, rnd_natCast]
  omega

theorem channelOf_pack8 {fmt : PixelFormat} {v : Channel → Nat} (h : ∀ c, v c ≤ 255) (c : Channel) :
    channelOf fmt c (pack8 fmt v) = v c >>> (8 - fieldWidth fmt c) := by
  refine channelOf_packChannels (fun k => ?_) c
  have hk := h k
  rw [channelMax, Nat.shiftRight_eq_div_pow]
  obtain hw | hw := fieldWidth_five_or_six fmt k <;> rw [hw] <;> omega

/-! ## The luma table -/

/-- The weighted sum stays below 2^16, so its upper byte is the entry (44_crt_lut_engine.md R191). -/
theorem lumaEntry_toNat (fmt : PixelFormat) (s : Pixel) : (lumaEntry fmt s).toNat =
    (expand8 fmt s .red * 54 + expand8 fmt s .green * 183 + expand8 fmt s .blue * 19) / 256 := by
  have hr := expand8_le fmt s .red
  have hg := expand8_le fmt s .green
  have hb := expand8_le fmt s .blue
  rw [lumaEntry, BitVec.toNat_ofNat, Nat.shiftRight_eq_div_pow]
  omega

/-- The weights sum to 256 (44_crt_lut_engine.md R192). -/
theorem lumaEntry_grey {fmt : PixelFormat} {s : Pixel} {v : Nat} (h : ∀ c, expand8 fmt s c = v) :
    (lumaEntry fmt s).toNat = v := by
  rw [lumaEntry_toNat, h, h, h]
  omega

theorem lumaEntry_mono {fmt : PixelFormat} {s s' : Pixel}
    (h : ∀ c, channelOf fmt c s ≤ channelOf fmt c s') :
    (lumaEntry fmt s).toNat ≤ (lumaEntry fmt s').toNat := by
  have hr := expand8_mono (h .red)
  have hg := expand8_mono (h .green)
  have hb := expand8_mono (h .blue)
  rw [lumaEntry_toNat, lumaEntry_toNat]
  omega

/-- A channel below 255 loses at least its weight, and 255 · 256 leaves nothing to lose. -/
theorem lumaEntry_eq_255_iff {fmt : PixelFormat} {s : Pixel} :
    lumaEntry fmt s = 255 ↔ ∀ c, expand8 fmt s c = 255 := by
  refine ⟨fun h c => ?white, fun h => BitVec.eq_of_toNat_eq (lumaEntry_grey h)⟩
  case white =>
    have hsum : (lumaEntry fmt s).toNat = 255 := by rw [h]; rfl
    have hr := expand8_le fmt s .red
    have hg := expand8_le fmt s .green
    have hb := expand8_le fmt s .blue
    rw [lumaEntry_toNat] at hsum
    cases c <;> omega

/-- Settles O42: the entry is the mean of the expanded channels with weights that sum to 256. -/
theorem lumaProperties : Obligations.LumaProperties := fun _ =>
  ⟨fun _ => lumaEntry_eq_255_iff, fun _ h => BitVec.eq_of_toNat_eq (lumaEntry_grey h),
    fun _ _ => lumaEntry_mono, fun _ _ => lumaEntry_grey, by decide, by decide, by decide, by decide⟩

/-! ## The gamma table -/

/-- A count over an initial segment of the naturals. -/
theorem countP_range_lt (N m : Nat) : (List.range N).countP (fun n => decide (n < m)) = min N m := by
  induction N with
  | zero => exact (Nat.zero_min m).symm
  | succ N ih =>
    rw [List.range_succ, List.countP_append, ih, List.countP_singleton]
    simp only [decide_eq_true_eq]
    split <;> omega

section
variable {γ : ℚ} (hγ : 0 < γ)
include hγ

/-- A real root is compared through integer powers: with γ = a/b, raise both sides to the power γ and then
to the power b. -/
theorem le_rpow_one_div_iff {x y : ℝ} (hx : 0 ≤ x) (hy : 0 ≤ y) :
    y ≤ x ^ (1 / (γ : ℝ)) ↔ y ^ γ.num.toNat ≤ x ^ γ.den := by
  have hγreal : (0 : ℝ) < γ := by exact_mod_cast hγ
  have hexp : (γ : ℝ) * γ.den = (γ.num.toNat : ℝ) := by
    have hnum : (γ.num.toNat : ℤ) = γ.num := Int.toNat_of_nonneg (Rat.num_nonneg.2 hγ.le)
    have hmul : γ * γ.den = (γ.num.toNat : ℚ) := by
      rw [Rat.mul_den_eq_num]
      exact_mod_cast hnum.symm
    exact_mod_cast hmul
  calc y ≤ x ^ (1 / (γ : ℝ))
      ↔ y ^ (γ : ℝ) ≤ x := by rw [one_div, Real.le_rpow_inv_iff_of_pos hy hx hγreal]
    _ ↔ (y ^ (γ : ℝ)) ^ γ.den ≤ x ^ γ.den :=
      (pow_le_pow_iff_left₀ (Real.rpow_nonneg hy _) hx γ.den_nz).symm
    _ ↔ y ^ γ.num.toNat ≤ x ^ γ.den := by
      rw [← Real.rpow_mul_natCast hy, hexp, Real.rpow_natCast]

/-- Level n + 1 is reached where the power is at least its rounding bound, (2n + 1)/2 on the 8-bit
scale. -/
theorem gamma_level_iff (n i : Nat) :
    (2 * n + 1) ^ γ.num.toNat * 255 ^ γ.den ≤ 510 ^ γ.num.toNat * i ^ γ.den ↔
      n < ⌊(255 : ℝ) * ((i : ℝ) / 255) ^ (1 / (γ : ℝ)) + 1 / 2⌋₊ := by
  have hbound : (n + 1 : ℝ) ≤ 255 * ((i : ℝ) / 255) ^ (1 / (γ : ℝ)) + 1 / 2 ↔
      (2 * n + 1 : ℝ) / 510 ≤ ((i : ℝ) / 255) ^ (1 / (γ : ℝ)) := by
    constructor <;> intro h <;> linarith
  rw [← Nat.succ_le_iff, Nat.le_floor_iff' n.succ_ne_zero, Nat.cast_succ, hbound,
    le_rpow_one_div_iff hγ (by positivity) (by positivity), div_pow, div_pow,
    div_le_div_iff₀ (by positivity) (by positivity), mul_comm ((i : ℝ) ^ _)]
  exact_mod_cast Iff.rfl

/-- The count of the levels reached is the rounded power, on the 8-bit scale. -/
theorem gammaFn_eq_min_floor (i : Nat) :
    gammaFn γ i = min 255 ⌊(255 : ℝ) * ((i : ℝ) / 255) ^ (1 / (γ : ℝ)) + 1 / 2⌋₊ := by
  rw [gammaFn, ← countP_range_lt]
  simp only [gamma_level_iff hγ]

end

/-- Settles O43: the model counts the levels the power reaches. -/
theorem gammaIsRoundedPower : Obligations.GammaIsRoundedPower := fun γ i hγ _ => by
  rw [gammaFn_eq_min_floor hγ, ← Int.floor_toNat]
  omega

/-- The exponent 1 changes no level (44_crt_lut_engine.md R196). -/
theorem gammaFn_one {i : Nat} (hi : i ≤ 255) : gammaFn 1 i = i := by
  have hround : ⌊(255 : ℝ) * ((i : ℝ) / 255) ^ (1 / ((1 : ℚ) : ℝ)) + 1 / 2⌋₊ = i := by
    rw [Rat.cast_one, div_one, Real.rpow_one, mul_div_cancel₀ _ (by norm_num),
      Nat.floor_eq_iff (by positivity)]
    constructor <;> linarith
  rw [gammaFn_eq_min_floor one_pos, hround]
  omega

/-! ## The shaped colour -/

/-- Only `blackFloor ≤ 255` keeps the two clamps from crossing. -/
theorem floorClamp_bounds {P : TriadParams} (h : P.blackFloor ≤ 255) (u : Rat) :
    P.blackFloor ≤ floorClamp P u ∧ floorClamp P u ≤ 255 :=
  ⟨le_min h (le_max_left ..), min_le_left ..⟩

theorem TriadParams.blackFloor_le {P : TriadParams} (h : P.wellFormed = true) : P.blackFloor ≤ 255 := by
  simp only [TriadParams.wellFormed, Bool.and_eq_true, decide_eq_true_eq] at h
  tauto

/-- Settles O45: the last stage clamps to this range. -/
theorem shapeStaysOnScale : Obligations.ShapeStaysOnScale := fun _ _ _ _ hP =>
  floorClamp_bounds (TriadParams.blackFloor_le hP) _

/-! ## The identity record -/

/-- The record P1 of 44_crt_lut_engine.md R209 with its tint left open. -/
def neutralRecord (tint : Rat) : TriadParams := ⟨1, 1, tint, 0, 0, 1, 0, 1, 1, 0, 1⟩

section
variable (tint : Rat)

theorem gainStage_neutralRecord {a : Nat} (h : a ≤ 255) : gainStage (neutralRecord tint) a = a := by
  rw [gainStage, neutralRecord, mul_one, rnd8_natCast h]

theorem gammaStage_neutralRecord {g : Nat} (h : g ≤ 255) : gammaStage (neutralRecord tint) g = g :=
  gammaFn_one h

theorem blackLift_neutralRecord (h : Nat) : blackLift (neutralRecord tint) h = h := by
  simp [blackLift, neutralRecord]

theorem saturate_neutralRecord (l : Channel → Rat) (j : Channel) :
    saturate (neutralRecord tint) l j = l j := by
  simp [saturate, neutralRecord]

theorem bleedStage_neutralRecord (t : Channel → Rat) (j : Channel) :
    bleedStage (neutralRecord tint) t j = t j := by
  cases j <;> simp [bleedStage, neutralRecord]

theorem floorClamp_neutralRecord {n : Nat} (h : n ≤ 255) : floorClamp (neutralRecord tint) n = n := by
  have hn : (n : Rat) ≤ 255 := by exact_mod_cast h
  rw [floorClamp, neutralRecord, max_eq_right n.cast_nonneg, min_eq_right hn]

/-- Every stage is the identity on the expanded pixel (44_crt_lut_engine.md R209). -/
theorem shape_neutralRecord (fmt : PixelFormat) (s : Pixel) (j : Channel) :
    shape (neutralRecord tint) fmt s j = expand8 fmt s j := by
  have hle := expand8_le fmt s
  simp only [shape, gainStage_neutralRecord tint (hle _), gammaStage_neutralRecord tint (hle _),
    blackLift_neutralRecord, bleedStage_neutralRecord, saturate_neutralRecord,
    floorClamp_neutralRecord tint (hle _)]

/-- Both phases have the brightness factor 1 (44_crt_lut_engine.md R204). -/
theorem brightness_neutralRecord (p : Phase) : brightness (neutralRecord tint) p = 1 := by
  cases p <;> rfl

end

/-- With tint 1 no mask is visible (44_crt_lut_engine.md R205). -/
theorem combine_neutralRecord_one (c : Channel → Rat) (k : Channel) (p : Phase) (j : Channel) :
    combine (neutralRecord 1) c k p j = c j := by
  rw [combine, brightness_neutralRecord]
  simp [neutralRecord]

/-- With tint 0 only the mask is (44_crt_lut_engine.md R205). -/
theorem combine_neutralRecord_zero (c : Channel → Rat) (k : Channel) (p : Phase) (j : Channel) :
    combine (neutralRecord 0) c k p j = if j = k then c j else 0 := by
  rw [combine, brightness_neutralRecord]
  simp [neutralRecord, maskValue]

theorem triadEntry_neutralRecord_one (fmt : PixelFormat) (k : Channel) (p : Phase) (s : Pixel) :
    triadEntry (neutralRecord 1) fmt k p s = pack8 fmt (expand8 fmt s) := by
  simp only [triadEntry, combine_neutralRecord_one, shape_neutralRecord, rnd8_natCast (expand8_le fmt s _)]

/-- A pure single-channel sub-pixel (44_crt_lut_engine.md R205). -/
theorem channelOf_triadEntry_neutralRecord_zero (fmt : PixelFormat) (k j : Channel) (p : Phase)
    (s : Pixel) : channelOf fmt j (triadEntry (neutralRecord 0) fmt k p s) =
      if j = k then channelOf fmt k s else 0 := by
  rw [triadEntry, channelOf_pack8 (fun _ => rnd8_le _), combine_neutralRecord_zero, shape_neutralRecord]
  split
  case isTrue hjk => rw [rnd8_natCast (expand8_le fmt s j), expand8_shiftRight, hjk]
  case isFalse =>
    have hzero : rnd8 0 = 0 := rnd8_natCast (Nat.zero_le 255)
    rw [hzero, Nat.zero_shiftRight]

/-- Settles O44: with tint 1 an entry repacks the expanded pixel, with tint 0 its channel k alone. -/
theorem identityRecord : Obligations.IdentityRecord := fun k j p s fmt =>
  ⟨(triadEntry_neutralRecord_one .rgb565 k p s).trans (packUndoesExpand s).1,
    (triadEntry_neutralRecord_one .rgb555 k p s).trans (packUndoesExpand s).2,
    channelOf_triadEntry_neutralRecord_zero fmt k j p s⟩

end Sys2Proof.Machine
end

section
/-!
PROOF. The CRT phosphor simulator (45_crt_phosphor.md). Once each bleeding test is one condition on the
edge and the lumas, the smear is one blend of pixels of the row in each mode, and the colour math gives
its channels. CTM644 looks the smeared pixel up in TRIAD, so it has the smear's reach and the table's
colours.
-/

namespace Sys2Proof.Machine

open Sys2Proof

/-! ## The smear -/

/-- No pixel bleeds into itself, so an edge column's own pixel never does (45_crt_phosphor.md R223 (e)). -/
theorem bleeds_edge_eq {luma : LumaTable} {margin : Nat} {n c : Pixel} {inRow : Prop}
    [Decidable inRow] {b : Bool}
    (hb : b = true ↔ inRow ∧ (luma.read c).toNat + margin < (luma.read n).toNat) :
    bleeds luma margin (if inRow then n else c) c = b := by
  rw [Bool.eq_iff_iff, hb, bleeds, decide_eq_true_iff]
  split <;> simp [*]

/-- Whether the left neighbour bleeds into the pixel at column `x` of row `y` (45_crt_phosphor.md R222). -/
def BleedsFromLeft (luma : LumaTable) (margin : Nat) (S : Window) (x y : Nat) : Prop :=
  0 < x ∧ (luma.read (S.px x y)).toNat + margin < (luma.read (S.px (x - 1) y)).toNat

/-- Whether the right neighbour does (45_crt_phosphor.md R222). -/
def BleedsFromRight (luma : LumaTable) (margin : Nat) (S : Window) (x y : Nat) : Prop :=
  x + 1 < S.w ∧ (luma.read (S.px x y)).toNat + margin < (luma.read (S.px (x + 1) y)).toNat

section
variable {luma : LumaTable} {margin : Nat} {S : Window} {x y : Nat} {bl br : Bool}
  (hbl : bl = true ↔ BleedsFromLeft luma margin S x y)
  (hbr : br = true ↔ BleedsFromRight luma margin S x y)
include hbl hbr

/-- The 1:2:1 blend of half mode (45_crt_phosphor.md R222). -/
theorem smear_half_eq (fmt : PixelFormat) : smear fmt .half luma margin S x y =
    average4 fmt (if bl then S.px (x - 1) y else S.px x y) (S.px x y) (S.px x y)
      (if br then S.px (x + 1) y else S.px x y) := by
  simp only [smear, bleeds_edge_eq hbl, bleeds_edge_eq hbr]
  rw [ite_congr rfl (fun hb => if_pos (hbl.1 hb).1) fun _ => rfl,
    ite_congr rfl (fun hb => if_pos (hbr.1 hb).1) fun _ => rfl]

/-- The 3:5 blend of full mode (45_crt_phosphor.md R222). -/
theorem smear_full_eq (fmt : PixelFormat) : smear fmt .full luma margin S x y =
    blend35 fmt
      (if bl ∧ br then
        (if (luma.read (S.px (x + 1) y)).toNat ≤ (luma.read (S.px (x - 1) y)).toNat
          then S.px (x - 1) y else S.px (x + 1) y)
        else if bl then S.px (x - 1) y else if br then S.px (x + 1) y else S.px x y) (S.px x y) := by
  simp only [smear, bleeds_edge_eq hbl, bleeds_edge_eq hbr]
  have hl (hb : bl = true) : (if 0 < x then S.px (x - 1) y else S.px x y) = S.px (x - 1) y :=
    if_pos (hbl.1 hb).1
  have hr (hb : br = true) : (if x + 1 < S.w then S.px (x + 1) y else S.px x y) = S.px (x + 1) y :=
    if_pos (hbr.1 hb).1
  refine congrArg (blend35 fmt · _) (ite_congr (Bool.and_eq_true ..) (fun ⟨hb, hb'⟩ => ?both) fun _ =>
    ite_congr rfl hl fun _ => ite_congr rfl hr fun _ => rfl)
  case both => rw [hl hb, hr hb']

end

/-- Where no neighbour bleeds, both blends are of the centre with itself (45_crt_phosphor.md R223 (a)). -/
theorem smear_unbled_rgb565 {luma : LumaTable} {margin : Nat} {S : Window} {x y : Nat}
    (hl : ¬ BleedsFromLeft luma margin S x y) (hr : ¬ BleedsFromRight luma margin S x y)
    (preset : Preset) : smear .rgb565 preset luma margin S x y = S.px x y := by
  have hbl := iff_of_false Bool.false_ne_true hl
  have hbr := iff_of_false Bool.false_ne_true hr
  cases preset with
  | half => exact (smear_half_eq hbl hbr _).trans (average4_self_rgb565 _)
  | full => exact (smear_full_eq hbl hbr _).trans (blend35Channels.2 _)

/-- Settles O46: each mode is one blend, with its channels from the colour math. -/
theorem smearKeepsUnbledPixels : Obligations.SmearKeepsUnbledPixels := by
  refine ⟨fun fmt k luma margin S x y c l r bl br hc hl hr hbl hbr => ?channels,
    fun preset luma margin S x y hl hr => smear_unbled_rgb565 (fun ⟨hx, hluma⟩ => ?left)
      (fun ⟨hx, hluma⟩ => ?right) preset⟩
  case channels =>
    subst hc hl hr
    rw [smear_half_eq hbl hbr, smear_full_eq hbl hbr, average4ChannelMean, blend35Channels.1]
    exact ⟨by omega, rfl⟩
  case left => exact absurd hluma (hl hx).not_gt
  case right => exact absurd hluma (hr hx).not_gt

/-! ## The pattern and the lookup -/

theorem pack8_rgb555_bit15 {v : Channel → Nat} (h : ∀ c, v c ≤ 255) :
    (pack8 .rgb555 v).getLsbD 15 = false := by
  refine packChannels_rgb555_bit15 fun c => ?_
  have hc := h c
  cases c <;> simp only [channelMax, fieldWidth, Nat.shiftRight_eq_div_pow] <;> omega

theorem triadEntry_rgb555_bit15 (P : TriadParams) (k : Channel) (p : Phase) (s : Pixel) :
    (triadEntry P .rgb555 k p s).getLsbD 15 = false :=
  pack8_rgb555_bit15 fun _ => rnd8_le _

/-- The smear reads one row of the window, and no column outside it (45_crt_phosphor.md R222). -/
theorem smear_congr_row {S S' : Window} {x y : Nat} (hw : S'.w = S.w)
    (hrow : ∀ x, x < S.w → S'.px x y = S.px x y) (hx : x < S.w) (fmt : PixelFormat) (preset : Preset)
    (luma : LumaTable) (margin : Nat) :
    smear fmt preset luma margin S' x y = smear fmt preset luma margin S x y := by
  have hright : (if x + 1 < S.w then S'.px (x + 1) y else S.px x y) =
      if x + 1 < S.w then S.px (x + 1) y else S.px x y := ite_congr rfl (hrow _) fun _ => rfl
  simp only [smear, hw, hrow x hx, hrow (x - 1) (by omega), hright]

/-- The lookup of 45_crt_phosphor.md R226, from what the pattern holds at the destination pixel. -/
theorem xformCtm644_eq (params : Params) (fmt : PixelFormat) (preset : Preset) (luma : LumaTable)
    (triad : TriadTable) (S : Window) (X Y : Nat) {k : Channel} {p : Phase}
    (h : patternAt params preset X Y = (k, p)) : xformCtm644 params fmt preset luma triad S X Y =
      triad.read k p (smear fmt preset luma params.lumaMargin.val S (X / 4) (Y / 4)) := by
  rw [xformCtm644, h]

/-- Settles O47: the pattern entry gives the table entry, which an RGB555 build packs with bit 15 clear,
and the looked-up pixel is smeared from one row. -/
theorem ctm644Outputs : Obligations.Ctm644Outputs := by
  refine ⟨fun params fmt luma triad S X Y k p hY hH hF =>
      ⟨xformCtm644_eq params fmt .half luma triad S X Y, xformCtm644_eq params fmt .full luma triad S X Y⟩,
    fun params preset P S X Y =>
      ⟨triadEntry_rgb555_bit15 .., fun fmt luma triad S' hw hrow hX => ?sameRow⟩⟩
  case sameRow =>
    rw [xformCtm644, xformCtm644, smear_congr_row hw hrow (Nat.div_lt_of_lt_mul hX)]

end Sys2Proof.Machine
end

section
/-!
PROOF. The commands of 46_plugin_commands.md. INIT is followed test by test, each test named as the
statements name it, and its success block is described field by field; SETPAL, CLOSE and FLIP are the
gate of R240 and one body each.
-/

namespace Sys2Proof.Machine

open Sys2Proof

/-! ## The tests of INIT -/

section
variable {f : Filter} {s : State}

theorem geometryUnsupported_iff_not : geometryUnsupported s = true ↔ ¬ geometrySupported s := by
  rw [geometryUnsupported_iff, geometrySupported]
  omega

theorem pitchTooShort_iff_not : pitchTooShort f s = true ↔ ¬ pitchesHold f s := by
  rw [pitchTooShort_iff, pitchesHold]
  omega

theorem overCapacity_iff_not : overCapacity f s = true ↔ ¬ surfacesFit f s := by
  rw [overCapacity_iff, surfacesFit]
  omega

/-- An INIT that passes the gate of R240 is `Init(f)`. -/
theorem exec_initOf_of_inactive (hq : s.faulted = false) (ha : s.status.active = false) :
    exec (initOf f) s = .next (initBody f s) :=
  (exec_initOf f s).trans (lifecycleGate_pass hq ha)

theorem initBody_of_unsupported (hg : ¬ geometrySupported s) :
    initBody f s = failInit .eUnsupported s :=
  if_pos (geometryUnsupported_iff_not.2 hg)

theorem initBody_of_shortPitch (hg : geometrySupported s) (hp : ¬ pitchesHold f s) :
    initBody f s = raiseFault .pitch s := by
  simp [initBody, geometryUnsupported_iff_not, hg, pitchTooShort_iff_not, hp]

theorem initBody_of_overCapacity (hg : geometrySupported s) (hp : pitchesHold f s)
    (hs : ¬ surfacesFit f s) : initBody f s = failInit .eAlloc s := by
  simp [initBody, geometryUnsupported_iff_not, hg, pitchTooShort_iff_not, hp, overCapacity_iff_not, hs]

/-- The handshake is asked once every test has passed, and `ok` activates the filter
(46_plugin_commands.md R248). -/
theorem initBody_of_ok (hg : geometrySupported s) (hp : pitchesHold f s) (hs : surfacesFit f s)
    (hr : backendReply s = .ok) : initBody f s = initSuccess f (askCreateBuffer f s) := by
  simp [initBody, geometryUnsupported_iff_not, hg, pitchTooShort_iff_not, hp, overCapacity_iff_not, hs,
    hr]

/-- Any other answer fails the INIT with the code of R248. -/
theorem initBody_of_not_ok (hg : geometrySupported s) (hp : pitchesHold f s) (hs : surfacesFit f s)
    (hr : backendReply s ≠ .ok) : initBody f s =
      failInit (if backendReply s = .failAlloc then .eAlloc else .eUnsupported)
        (askCreateBuffer f s) := by
  simp only [initBody, geometryUnsupported_iff_not, hg, pitchTooShort_iff_not, hp,
    overCapacity_iff_not, hs, not_true_eq_false, if_false]
  cases h : backendReply s with
  | ok => exact absurd h hr
  | failAlloc => rfl
  | failUnsupported => rfl

/-- Only a pitch that is too short makes `Init(f)` raise a fault (60_exceptions.md R285). -/
theorem initBody_fault (h : geometrySupported s → pitchesHold f s) :
    (initBody f s).fault = s.fault := by
  by_cases hg : geometrySupported s
  · by_cases hs : surfacesFit f s
    · by_cases hr : backendReply s = .ok
      · rw [initBody_of_ok hg (h hg) hs hr, initSuccess_fault, askCreateBuffer_fault]
      · rw [initBody_of_not_ok hg (h hg) hs hr, failInit_fault, askCreateBuffer_fault]
    · rw [initBody_of_overCapacity hg (h hg) hs, failInit_fault]
  · rw [initBody_of_unsupported hg, failInit_fault]

end

/-! ## The success block of INIT -/

section
variable (f : Filter) (s : State)

@[simp] theorem buildTables_active : (buildTables s).status.active = s.status.active := by
  unfold buildTables; split <;> rfl
@[simp] theorem buildTables_filter : (buildTables s).status.filter = s.status.filter := by
  unfold buildTables; split <;> rfl

@[simp] theorem initSuccess_active : (initSuccess f s).status.active = true := by
  unfold initSuccess; split <;> simp
@[simp] theorem initSuccess_filter : (initSuccess f s).status.filter = f := by
  unfold initSuccess; split <;> simp
@[simp] theorem initSuccess_result : (initSuccess f s).result = .ok := by
  unfold initSuccess; split <;> simp
@[simp] theorem initSuccess_surface : (initSuccess f s).surface =
    ⟨BitVec.ofNat 32 (s.operand.srcW.toNat * multiplier f), surfaceHeight s f, multWord f⟩ := by
  unfold initSuccess; split <;> simp
@[simp] theorem initSuccess_clip : (initSuccess f s).clip = s.clip := by
  unfold initSuccess; split <;> simp
@[simp] theorem initSuccess_trace : (initSuccess f s).trace = s.trace := by
  unfold initSuccess; split <;> simp

end

section
variable {f : Filter} {s : State}

theorem initSuccess_of_ne (hf : f ≠ .ctm644) : initSuccess f s = activate f s := if_neg hf

/-- SURF_W holds the product, which the pitch test bounds (46_plugin_commands.md R246). -/
theorem pitchesHold.surfW_toNat (h : pitchesHold f s) :
    (BitVec.ofNat 32 (s.operand.srcW.toNat * multiplier f)).toNat =
      s.operand.srcW.toNat * multiplier f := by
  obtain ⟨_, hdst⟩ := h
  have hreg := s.operand.dstPitch.isLt
  rw [Nat.mul_assoc] at hdst
  rw [BitVec.toNat_ofNat, Nat.mod_eq_of_lt (by omega)]

/-- SURF_H holds the product where 32 bits do (log 7). -/
theorem surfaceHeight_toNat (h : s.operand.srcH.toNat * multiplier f < 2 ^ 32) :
    (surfaceHeight s f).toNat = s.operand.srcH.toNat * multiplier f := by
  rw [surfaceHeight, if_pos h, BitVec.toNat_ofNat, Nat.mod_eq_of_lt h]

theorem multWord_toNat (f : Filter) : (multWord f).toNat = multiplier f + 256 * multiplier f := by
  cases f <;> rfl

/-- The multipliers of 10_state.md R32 but for CTM644. -/
theorem multiplier_eq_ite (hf : f ≠ .ctm644) : multiplier f = if f = .direct then 1 else 2 := by
  cases f with
  | ctm644 => exact absurd rfl hf
  | _ => rfl

/-- An INIT.CTM644 that finds valid tables keeps them and their preset (46_plugin_commands.md R251). -/
theorem initSuccess_ctm644_of_valid (hv : s.status.lutValid = true) :
    initSuccess .ctm644 s = activate .ctm644 s :=
  buildTables_of_valid (s := activate .ctm644 s) hv

/-- An INIT.CTM644 that finds none builds both tables from the preset CFG.HALF_H selects. -/
theorem initSuccess_ctm644_of_invalid (hv : s.status.lutValid = false) :
    (initSuccess .ctm644 s).status = ⟨true, true, cfgPreset s.operand.cfg, .ctm644⟩ ∧
    (initSuccess .ctm644 s).luma = .built s.fmt ∧
    (initSuccess .ctm644 s).triad =
      .built (presetRecord s.params (cfgPreset s.operand.cfg)) s.fmt :=
  buildTables_of_invalid (s := activate .ctm644 s) hv

theorem initSuccess_ctm644_lutValid : (initSuccess .ctm644 s).status.lutValid = true := by
  cases hv : s.status.lutValid with
  | false => simp [initSuccess_ctm644_of_invalid hv]
  | true => simp [initSuccess_ctm644_of_valid hv, hv]

/-- The record of the preset CFG.HALF_H selects (44_crt_lut_engine.md R195). -/
theorem presetRecord_cfgPreset (params : Params) (cfg : Word) : presetRecord params (cfgPreset cfg) =
    if cfg.getLsbD 0 then params.presetHalf else params.presetFull := by
  unfold cfgPreset cfgHalfH
  split <;> rfl

/-- The luma of 44_crt_lut_engine.md R191, the shift written as a division. -/
theorem lumaEntry_eq_div (fmt : PixelFormat) (p : Pixel) : lumaEntry fmt p = BitVec.ofNat 8
    ((expand8 fmt p .red * 54 + expand8 fmt p .green * 183 + expand8 fmt p .blue * 19) / 256) := by
  rw [lumaEntry, Nat.shiftRight_eq_div_pow]

end

/-! ## The statements about INIT -/

/-- Settles O15: the geometry test comes first, and its failure writes RESULT. -/
theorem initUnsupported : Obligations.InitUnsupported := by
  intro f s hq ha hg
  rw [exec_initOf_of_inactive hq ha, initBody_of_unsupported hg]
  rfl

/-- Settles O16: the pitch test comes second, and its failure is the fault F_PITCH. -/
theorem initShortPitch : Obligations.InitShortPitch := by
  intro f s hq ha hg hp
  rw [exec_initOf_of_inactive hq ha, initBody_of_shortPitch hg hp]
  rfl

/-- Settles O17: the capacity test comes last before the handshake, and its failure writes RESULT. -/
theorem initOverCapacity : Obligations.InitOverCapacity := by
  intro f s hq ha hg hp hs
  rw [exec_initOf_of_inactive hq ha, initBody_of_overCapacity hg hp hs]
  rfl

/-- Settles O18: with every test passed the handshake is recorded, and its answer alone decides between
the failure, which writes RESULT besides, and the success block. -/
theorem initBackendAnswer : Obligations.InitBackendAnswer := by
  intro f s hq ha hg hp hs
  refine ⟨_, exec_initOf_of_inactive hq ha, ?_⟩
  by_cases hr : backendReply s = .ok
  · rw [initBody_of_ok hg hp hs hr]
    simp [hr, cfgFullscreen]
  · rw [initBody_of_not_ok hg hp hs hr]
    exact ⟨rfl, fun h => absurd h hr, fun _ => ⟨rfl, rfl, rfl, rfl, rfl, rfl, rfl, rfl, rfl, rfl,
      fun _ => ⟨rfl, rfl⟩, rfl⟩⟩

/-- Settles O21: the success block of a filter without tables is `activate`. -/
theorem initSucceeds : Obligations.InitSucceeds := by
  intro f m s hf hm hq ha hg hp hs hr
  obtain rfl : multiplier f = m := (multiplier_eq_ite hf).trans hm.symm
  refine ⟨_, exec_initOf_of_inactive hq ha, ?_⟩
  rw [initBody_of_ok hg hp hs hr, initSuccess_of_ne hf]
  refine ⟨rfl, rfl, hp.surfW_toNat, surfaceHeight_toNat (s := askCreateBuffer f s), multWord_toNat f,
    fun _ => ⟨rfl, rfl⟩, ?trace, rfl, rfl, rfl, rfl, rfl, rfl, rfl, rfl, rfl⟩
  case trace => simp [hr, cfgFullscreen]

/-- Settles O22: the success block of CTM644 is `activate` and, where LUT_VALID was 0, the build of both
tables. -/
theorem initCtm644Succeeds : Obligations.InitCtm644Succeeds := by
  intro s hq ha hg hp hs hr
  refine ⟨_, exec_initOf_of_inactive (f := .ctm644) hq ha, ?_⟩
  rw [initBody_of_ok hg hp hs hr]
  refine ⟨by simp, by simp, initSuccess_ctm644_lutValid, by simp, fun hv => ?built, fun hv => ?kept,
    ?surfW, fun hH => ?surfH, ?mult, by simp, ?trace, by simp, by simp, by simp, by simp,
    by simp, by simp, by simp⟩
  case built =>
    obtain ⟨hstatus, hluma, htriad⟩ :=
      initSuccess_ctm644_of_invalid (s := askCreateBuffer .ctm644 s) hv
    rw [hstatus, hluma, htriad, presetRecord_cfgPreset]
    exact ⟨rfl, lumaEntry_eq_div s.fmt, fun _ _ _ => rfl⟩
  case kept =>
    rw [initSuccess_ctm644_of_valid (s := askCreateBuffer .ctm644 s) hv]
    exact ⟨rfl, rfl, rfl⟩
  case surfW =>
    rw [initSuccess_surface]
    exact hp.surfW_toNat
  case surfH =>
    rw [initSuccess_surface]
    exact surfaceHeight_toNat (f := .ctm644) (s := askCreateBuffer .ctm644 s) hH
  case mult => rw [initSuccess_surface]; rfl
  case trace => simp [hr, cfgFullscreen, multiplier]

/-! ## SETPAL and CLOSE -/

theorem exec_setPal_of_active {s : State} (hq : s.faulted = false) (ha : s.status.active = true) :
    exec .setPal s = .next (setPalBody s) :=
  lifecycleGate_pass (body := fun t => .next (setPalBody t)) hq ha

theorem exec_close_of_active {s : State} (hq : s.faulted = false) (ha : s.status.active = true) :
    exec .close s = .next (closeBody s) :=
  lifecycleGate_pass (body := fun t => .next (closeBody t)) hq ha

theorem closeBody_of_ctm644 {s : State} (hf : s.status.filter = .ctm644) :
    closeBody s = releaseSurfaces (releaseTables s) := by
  rw [closeBody, if_pos hf]

theorem closeBody_of_ne {s : State} (hf : s.status.filter ≠ .ctm644) :
    closeBody s = releaseSurfaces s := by
  rw [closeBody, if_neg hf]

/-- Settles O23: the body of SETPAL masks every entry of PAL_IN and touches PAL and RESULT alone. -/
theorem setPalCommits : Obligations.SetPalCommits := fun s hq ha =>
  ⟨_, exec_setPal_of_active hq ha, fun i => by simp [paletteEntry, paletteMask], rfl,
    fun _ => ⟨rfl, rfl⟩, rfl, rfl, rfl, rfl, rfl, rfl, rfl, rfl, rfl, rfl, rfl⟩

/-- Settles O24: CLOSE releases the surfaces, after the tables where the filter is CTM644. -/
theorem closeReleases : Obligations.CloseReleases := by
  intro s hq ha
  refine ⟨_, exec_close_of_active hq ha, ?_⟩
  by_cases hf : s.status.filter = .ctm644
  · rw [closeBody_of_ctm644 hf]
    simp [hf, ClipRegs.zero]
  · rw [closeBody_of_ne hf]
    simp [hf, ClipRegs.zero]

/-! ## FLIP -/

section
variable {s : State}

/-- The CLIP registers after a FLIP of the full frame (47_clip_resolver.md R273). -/
theorem Latched.flipClip_regs (h : Latched s)
    (hH : s.operand.srcH.toNat * multiplier s.status.filter < 2 ^ 32) : (flipClip s).regs =
      ⟨0, 0, s.operand.srcW, s.operand.srcH, 0, 0, s.surface.surfW, s.surface.surfH⟩ := by
  simp [h.flipClip_eq hH, ← h.surfW, ← h.surfH hH, Clip.regs]

/-- The Present of a FLIP of the full frame (46_plugin_commands.md R243). -/
theorem Latched.presentEvent_flipClip (h : Latched s)
    (hH : s.operand.srcH.toNat * multiplier s.status.filter < 2 ^ 32) : presentEvent s (flipClip s) =
      .present s.surface.surfW s.surface.surfH s.operand.dstPitch
        ⟨0, 0, s.surface.surfW.toNat, s.surface.surfH.toNat⟩ (s.operand.cfg.getLsbD 2) := by
  simp [h.flipClip_eq hH, ← h.surfW, ← h.surfH hH, presentEvent, cfgPreserveAspect]

/-- A FLIP of the full frame keeps every byte of DST that is no surface pixel's. -/
theorem Latched.flip_dstByte_frame (h : Latched s)
    (hH : s.operand.srcH.toNat * multiplier s.status.filter < 2 ^ 32) {a : Nat}
    (hframe : ∀ X Y, X < s.operand.srcW.toNat * multiplier s.status.filter →
      Y < s.operand.srcH.toNat * multiplier s.status.filter →
      a ≠ pixelAddr s.operand.dstPitch.toNat X Y ∧ a ≠ pixelAddr s.operand.dstPitch.toNat X Y + 1) :
    (flipEffect s (flipClip s)).dstByte a = s.dstByte a := by
  rw [flipEffect_dstByte, flipDst, storeImage_byte?_frame]
  · rfl
  · simpa [h.flipClip_eq hH, flipAddr, imageWidth, imageHeight, h.mult] using hframe

end

/-- Settles O25: the latched geometry makes the rectangles the full frame and surface, so DST holds the
image of the whole source window. -/
theorem flipCompletes : Obligations.FlipCompletes := by
  intro s h hq ha hH
  have hl := h.latched ha
  refine ⟨_, h.exec_flip hq ha, fun X Y hX hY => hl.flip_dstHalf hH hX hY,
    fun a => hl.flip_dstByte_frame hH, fun _ => rfl, hl.flipClip_regs hH, ?trace,
    rfl, rfl, rfl, rfl, rfl, rfl, rfl, rfl, rfl, rfl, rfl⟩
  case trace => rw [flipEffect_trace, hl.presentEvent_flipClip hH]

/-! ## A correct host -/

/-- A command is an INIT of some filter or one of the other three (30_encoding.md R93). -/
theorem Instr.eq_initOf_or (i : Instr) : (∃ f, i = initOf f) ∨ i = .setPal ∨ i = .flip ∨ i = .close := by
  cases i with
  | initDirect => exact .inl ⟨.direct, rfl⟩
  | initSuperEagle => exact .inl ⟨.superEagle, rfl⟩
  | initScale2x => exact .inl ⟨.scale2x, rfl⟩
  | initAScale2x => exact .inl ⟨.advScale2x, rfl⟩
  | initTv2x => exact .inl ⟨.tv2x, rfl⟩
  | initBilinear => exact .inl ⟨.bilinear, rfl⟩
  | initBicubic => exact .inl ⟨.bicubic, rfl⟩
  | initDotMatrix => exact .inl ⟨.dotMatrix, rfl⟩
  | initMonitor2x => exact .inl ⟨.monitor2x, rfl⟩
  | initCtm644 => exact .inl ⟨.ctm644, rfl⟩
  | setPal => exact .inr (.inl rfl)
  | flip => exact .inr (.inr (.inl rfl))
  | close => exact .inr (.inr (.inr rfl))

theorem lifecycleLegal_initOf {f : Filter} {s : State} (h : lifecycleLegal (initOf f) s) :
    s.status.active = false := by
  cases f <;> exact h

/-- FAULTED is a view of FAULT (10_state.md R26). -/
theorem faulted_congr {s t : State} (h : t.fault = s.fault) : t.faulted = s.faulted := by
  rw [State.faulted, State.faulted, h]

/-- Settles O20: the lifecycle passes the gate, and of the bodies behind it only INIT with a short pitch
and FLIP without tables raise a fault. -/
theorem correctHostNeverFaults : Obligations.CorrectHostNeverFaults := by
  intro i s h hq hlegal hpitch
  rcases Instr.eq_initOf_or i with ⟨f, rfl⟩ | rfl | rfl | rfl
  · exact ⟨_, exec_initOf_of_inactive hq (lifecycleLegal_initOf hlegal),
      (faulted_congr (initBody_fault (hpitch f rfl))).trans hq⟩
  · exact ⟨_, exec_setPal_of_active hq hlegal, hq⟩
  · exact ⟨_, h.exec_flip hq hlegal, hq⟩
  · exact ⟨_, exec_close_of_active hq hlegal, (faulted_congr (closeBody_fault s)).trans hq⟩

end Sys2Proof.Machine
end

section
/-!
PROOF. The clip resolver (47_clip_resolver.md). Both arms of ResolveAxis are one clip: the rectangles
are centred, and as many source pixels are shown as the source has and the surface holds whole.
-/

namespace Sys2Proof.Machine

open Sys2Proof

/-- How many of the `n` source pixels a surface of `sz` pixels shows at `m` pixels each. -/
def shownPixels (n m sz : Nat) : Nat := min n (sz / m)

theorem shownPixels_of_fit {n m sz : Nat} (hm : 0 < m) (hfit : n * m ≤ sz) : shownPixels n m sz = n :=
  min_eq_left ((Nat.le_div_iff_mul_le hm).mpr hfit)

theorem shownPixels_of_crop {n m sz : Nat} (hm : 0 < m) (hcrop : sz < n * m) :
    shownPixels n m sz = sz / m :=
  min_eq_right ((Nat.div_lt_iff_lt_mul hm).mpr hcrop).le

theorem shownPixels_pos {n m sz : Nat} (hn : 1 ≤ n) (hm : 0 < m) (hsz : m ≤ sz) :
    1 ≤ shownPixels n m sz :=
  le_min hn (Nat.div_pos hsz hm)

/-- The clip of `len` source pixels with both rectangles centred, the odd pixel at the end
(47_clip_resolver.md R271). -/
def centredClip (n m sz len : Nat) : AxisClip :=
  ⟨(n - len) / 2, len, (sz - len * m) / 2, len * m⟩

/-- The source pixels that cannot fit, rounded up, are those beyond what the surface holds whole. -/
theorem cut_eq_sub_div {n m sz : Nat} (hm : 0 < m) (hcrop : sz < n * m) :
    (n * m - sz + m - 1) / m = n - sz / m := by
  have hmul : m * (n + 1) = n * m + m := by ring
  calc (n * m - sz + m - 1) / m
    _ = (m * (n + 1) - (sz + 1)) / m := by rw [hmul]; congr 1; omega
    _ = n + 1 - (sz / m + 1) := Nat.mul_sub_div sz m (n + 1) (by omega)
    _ = n - sz / m := Nat.add_sub_add_right ..

theorem resolveAxis_eq_centredClip {n m sz : Nat} (hm : 0 < m) :
    resolveAxis n m sz = centredClip n m sz (shownPixels n m sz) := by
  by_cases hfit : n * m ≤ sz
  · simp [resolveAxis, centredClip, hfit, shownPixels_of_fit hm hfit]
  · have hcrop : sz < n * m := Nat.lt_of_not_le hfit
    have hle : sz / m ≤ n := ((Nat.div_lt_iff_lt_mul hm).mpr hcrop).le
    simp [resolveAxis, centredClip, hfit, shownPixels_of_crop hm hcrop, cut_eq_sub_div hm hcrop,
      Nat.sub_sub_self hle]

/-- The two margins that share `k` spare pixels differ by at most one (47_clip_resolver.md R272 (e)). -/
theorem half_margins (k : Nat) : k / 2 ≤ k - k / 2 ∧ k - k / 2 ≤ k / 2 + 1 := by
  omega

/-- Settles O48: the clip is the centred one, and a crop leaves the remainder of the surface uncovered. -/
theorem resolveAxisProperties : Obligations.ResolveAxisProperties := by
  intro n m sz hn hmult hsz
  have hm : 0 < m := by omega
  have hwithin := resolveAxis_within (n := n) (sz := sz) hm
  rw [resolveAxis_eq_centredClip hm] at hwithin ⊢
  obtain ⟨hsrc, hdst⟩ := hwithin
  refine ⟨rfl, hdst, hsrc, shownPixels_pos hn hm hsz, half_margins _, half_margins _,
    fun hcrop => ?smallest⟩
  case smallest =>
    calc sz - shownPixels n m sz * m
      _ = sz % m := by rw [shownPixels_of_crop hm hcrop, Nat.mod_eq_sub_div_mul]
      _ < m := Nat.mod_lt sz hm

end Sys2Proof.Machine
end

section
/-!
PROOF. The exceptional outcomes of 60_exceptions.md and the reset of 70_reset_and_hazards.md. A
faulted block refuses every word and a command in the wrong lifecycle state raises its fault, both at
the gate of R289; the state after reset is what the reset input makes of a block.
-/

namespace Sys2Proof.Machine

open Sys2Proof

/-! ## The gate of every word -/

section
variable {s : State}

/-- No command passes the gate of a faulted block (60_exceptions.md R284). -/
theorem exec_of_faulted (hq : s.faulted = true) (i : Instr) : exec i s = .next (refuseFaulted s) := by
  rcases Instr.eq_initOf_or i with ⟨f, rfl⟩ | rfl | rfl | rfl
  · exact (exec_initOf f s).trans (lifecycleGate_faulted hq)
  · exact lifecycleGate_faulted (body := fun t => .next (setPalBody t)) hq
  · exact lifecycleGate_faulted (body := flipBody) hq
  · exact lifecycleGate_faulted (body := fun t => .next (closeBody t)) hq

/-- A second INIT without a CLOSE (60_exceptions.md R281). -/
theorem exec_initOf_of_active (hq : s.faulted = false) (ha : s.status.active = true) (f : Filter) :
    exec (initOf f) s = .next (raiseFault .lifecycle s) :=
  (exec_initOf f s).trans (lifecycleGate_wrong hq (by simp [ha]))

/-- A command of an active plugin while none is (60_exceptions.md R281). -/
theorem exec_of_inactive (hq : s.faulted = false) (ha : s.status.active = false) {i : Instr}
    (hi : i = .setPal ∨ i = .flip ∨ i = .close) : exec i s = .next (raiseFault .lifecycle s) := by
  have hwrong : s.status.active ≠ true := by simp [ha]
  rcases hi with rfl | rfl | rfl
  · exact lifecycleGate_wrong (body := fun t => .next (setPalBody t)) hq hwrong
  · exact lifecycleGate_wrong (body := flipBody) hq hwrong
  · exact lifecycleGate_wrong (body := fun t => .next (closeBody t)) hq hwrong

theorem exec_flip_of_active (hq : s.faulted = false) (ha : s.status.active = true) :
    exec .flip s = flipBody s :=
  lifecycleGate_pass (body := flipBody) hq ha

theorem illegalCommand_of_faulted (hq : s.faulted = true) : illegalCommand s = refuseFaulted s :=
  if_pos hq

theorem illegalCommand_of_unfaulted (hq : s.faulted = false) :
    illegalCommand s = s.setResult .eIllegalCmd := by
  simp [illegalCommand, hq]

theorem execWord_of_error {c : Word} {e : DecodeError} (hd : decode c = .error e) :
    execWord c s = .next (illegalCommand s) := by
  simp [execWord, hd]

/-- A faulted block refuses every word, legal or not (46_plugin_commands.md R240). -/
theorem execWord_of_faulted (hq : s.faulted = true) (c : Word) :
    execWord c s = .next (refuseFaulted s) := by
  cases hd : decode c with
  | ok i => simp [execWord, hd, exec_of_faulted hq i]
  | error e => rw [execWord_of_error hd, illegalCommand_of_faulted hq]

end

/-! ## The statements about exceptional outcomes -/

/-- Settles O12: whatever the word, only the refusal of a faulted block is left. -/
theorem faultedBlockRefuses : Obligations.FaultedBlockRefuses := by
  intro s c hq hf
  rw [step_of_command hf, execWord_of_faulted hq]
  rfl

/-- Settles O6: a word that does not decode is an illegal command, refused where the block is
faulted. -/
theorem stepIllegalWord : Obligations.StepIllegalWord := by
  intro s c e hf hd
  refine ⟨fun hq => ?_, fun hq => faultedBlockRefuses s c hq hf⟩
  rw [step_of_command hf, execWord_of_error hd, illegalCommand_of_unfaulted hq]
  rfl

/-- Settles O14: the gate tests the lifecycle before the body of any command. -/
theorem lifecycleFault : Obligations.LifecycleFault := fun _ hq =>
  ⟨fun ha f => exec_initOf_of_active hq ha f, fun ha _ hi => exec_of_inactive hq ha hi⟩

/-- Settles O19: past the gate, the tables are the first test of FLIP. -/
theorem flipWithoutTables : Obligations.FlipWithoutTables := by
  intro s hq ha hf hv
  calc exec .flip s
    _ = flipBody s := exec_flip_of_active hq ha
    _ = .next (raiseFault .lutUnbuilt s) := if_pos ⟨hf, hv⟩

/-! ## Reset -/

/-- The state after reset is what the reset input makes of a block before its first free value. -/
theorem reset_eq_platformReset : State.reset = platformReset { State.reset with draws := 0 } := rfl

theorem step_of_reset {s : State} (h : fetchAction s = some .reset) :
    step s = .next (advance (platformReset s)) := by
  rw [step_of_hostAction h rfl]
  rfl

theorem platformReset_faulted (s : State) : (platformReset s).faulted = false := rfl

theorem platformReset_palettes (s : State) (i : Fin 32) :
    (platformReset s).palIn[i] = 0 ∧ (platformReset s).pal[i] = 0 := by
  simp

theorem platformReset_memories (s : State) (a : Nat) :
    (platformReset s).src.byte? a = none ∧ (platformReset s).dst.byte? a = none := by
  simp

/-! ## The statements about reset -/

/-- Settles O9: the state after reset is a reset block, whose registers are constants and whose memories
list no byte. -/
theorem resetValues : Obligations.ResetValues := by
  rw [Obligations.ResetValues, reset_eq_platformReset]
  exact ⟨rfl, rfl, rfl, rfl, rfl, rfl, rfl, rfl, rfl, rfl, rfl, rfl, platformReset_palettes _,
    platformReset_memories _, rfl⟩

/-- Settles O10: reset establishes the block's invariant, and the program without actions is at its
end. -/
theorem resetMeetsInv : Obligations.ResetMeetsInv :=
  inv_iff.2 ⟨reset_eq_platformReset ▸ blockInv_platformReset _, Nat.le_refl 0⟩

/-- Settles O56: every register of the block is a constant of the reset, and its memories and tables
are the unspecified ones of a new event. -/
theorem resetFromAnyState : Obligations.ResetFromAnyState := by
  intro s hf
  refine ⟨_, step_of_reset hf, rfl, rfl, platformReset_faulted s, rfl, rfl, rfl, rfl,
    platformReset_palettes s, platformReset_memories s, fun fmt => ?luma, fun P fmt => ?triad, rfl, rfl⟩
  case luma => simp
  case triad => simp

end Sys2Proof.Machine
end
